-- ==== Sys2Proof/Word.lean ====
section
/-!
DEFINITION. The word types of the block (00_scope.md rule R8): a bus word is 32 bits, an `f32` is the
32-bit IEEE 754 pattern, a byte is 8 bits. The arithmetic on `f32` stands in Machine/Fp.lean.
-/

namespace Sys2Proof

/-- A bus word (R8, R45). -/
abbrev Word := BitVec 32

/-- A byte of the address window (R44). -/
abbrev Byte := BitVec 8

/-- An `f32` held as its IEEE 754 binary32 pattern (R8, R71). -/
abbrev F32 := BitVec 32

/-- The state of one oversampling filter, a list of words whose zero state is the empty list (R33; log 6). -/
abbrev OsState := List F32

end Sys2Proof
end

