-- ==== Sys2Proof/Config.lean ====
section
/-!
DEFINITION. What the implementation fixes: the document's literals (00_scope.md R4), the implementation
parameters with this hardware's value (R5), and, as opaque constants without a body, the OPEN parameters
(R6) and the free values of what the spec leaves unspecified (93_implementation_defined.md).
The constraints of R6 are put on the OPEN parameters in Machine/Open.lean.
-/

namespace Sys2Proof.Config

/-! ## R5: implementation parameters -/

/-- `C_MAX`, the channel maximum. -/
def cMax : Nat := 2
/-- `N_MAX`, the block length maximum. -/
def nMax : Nat := 4096
/-- `P_FTZ`: no flush to zero (R9). The arithmetic of Machine/Fp.lean is the one for `false` (log 16). -/
def pFtz : Bool := false
/-- `P_HANN_DEN`. -/
def hannDen : Nat := 2047
/-- `P_BLACKMAN_DEN`. -/
def blackmanDen : Nat := 510
/-- `P_KW_HP_Q`, `1/SQRT(2)`. -/
def kwHpQ : F32 := 0x3F3504F3#32
/-- `P_KW_SHELF_Q`, `1/SQRT(2)`. -/
def kwShelfQ : F32 := 0x3F3504F3#32
/-- `P_LM_SHARED_KW`. -/
def lmSharedKw : Bool := false

/-! ## R4: the document's literals, each the binary32 nearest to the stated value -/

/-- `F[b]`, the band centre frequencies: 80, 200, 500, 1200, 3000, 6000, 12000, 16000 Hz (R4, R41). -/
def bandHz : List F32 :=
  [0x42A00000#32, 0x43480000#32, 0x43FA0000#32, 0x44960000#32,
   0x453B8000#32, 0x45BB8000#32, 0x463B8000#32, 0x467A0000#32]
/-- The number of bands. -/
def numBands : Nat := 8
/-- `EQ_RECALC_DB`, 0.1. -/
def eqRecalcDb : F32 := 0x3DCCCCCD#32
/-- `SPA_LEN`. -/
def spaLen : Nat := 2048
/-- `SPA_BINS`. -/
def spaBins : Nat := 1024
/-- `FIR_TAPS`. -/
def firTaps : Nat := 511
/-- The delay-line length, `FIR_TAPS - 1` (R36). -/
def firDelay : Nat := 510
/-- `FIR_RECALC_HZ`, 0.1. -/
def firRecalcHz : F32 := 0x3DCCCCCD#32
/-- `OS_FACTOR`. -/
def osFactor : Nat := 4
/-- `TUBE_STAGES`. -/
def tubeStages : Nat := 3
/-- `TUBE_CUTOFF`, -2.0. -/
def tubeCutoff : F32 := 0xC0000000#32
/-- `TUBE_LIM`, 0.95. -/
def tubeLim : F32 := 0x3F733333#32
/-- `TAPE_COERC`, 0.3. -/
def tapeCoerc : F32 := 0x3E99999A#32
/-- `TAPE_SATLVL`, 0.8. -/
def tapeSatLvl : F32 := 0x3F4CCCCD#32
/-- `TAPE_NEW`, 0.7. -/
def tapeNew : F32 := 0x3F333333#32
/-- `TAPE_OLD`, 0.3. -/
def tapeOld : F32 := 0x3E99999A#32
/-- `TAPE_GAP`, 0.1. -/
def tapeGap : F32 := 0x3DCCCCCD#32
/-- `TAPE_LIM`, 0.9. -/
def tapeLim : F32 := 0x3F666666#32
/-- `XS_THRESH`, 0.02. -/
def xsThresh : F32 := 0x3CA3D70A#32
/-- `XS_FB`, 0.05. -/
def xsFb : F32 := 0x3D4CCCCD#32
/-- `XS_LIM`, 0.95. -/
def xsLim : F32 := 0x3F733333#32
/-- `DIODE_VT`, 0.026. -/
def diodeVt : F32 := 0x3CD4FDF4#32
/-- `DIODE_N`, 1.0. -/
def diodeN : F32 := 0x3F800000#32
/-- `DIODE_EXPMAX`, 10.0. -/
def diodeExpMax : F32 := 0x41200000#32
/-- `DIODE_POS`, 0.7. -/
def diodePos : F32 := 0x3F333333#32
/-- `DIODE_LIM`, 0.98. -/
def diodeLim : F32 := 0x3F7AE148#32
/-- `FUZZ_DRIFT_K`, 0.001. -/
def fuzzDriftK : F32 := 0x3A83126F#32
/-- `FUZZ_LIM`, 0.85. -/
def fuzzLim : F32 := 0x3F59999A#32
/-- `EQ_DB_FLOOR`, -60.0. -/
def eqDbFloor : F32 := 0xC2700000#32
/-- `EQ_CORR_MAX`, 12.0. -/
def eqCorrMax : F32 := 0x41400000#32
/-- `EQ_G_OLD`, 0.95. -/
def eqGOld : F32 := 0x3F733333#32
/-- `EQ_G_NEW`, 0.05. -/
def eqGNew : F32 := 0x3D4CCCCD#32
/-- `EQ_Q`, 2.0. -/
def eqQ : F32 := 0x40000000#32
/-- `BLK_A0`, 0.42. -/
def blkA0 : F32 := 0x3ED70A3D#32
/-- `BLK_A1`, 0.5. -/
def blkA1 : F32 := 0x3F000000#32
/-- `BLK_A2`, 0.08. -/
def blkA2 : F32 := 0x3DA3D70A#32
/-- `LC_MIN`, 20.0. -/
def lcMin : F32 := 0x41A00000#32
/-- `HC_MIN`, 1000.0. -/
def hcMin : F32 := 0x447A0000#32
/-- `CUT_MAX_FRAC`, 0.45. -/
def cutMaxFrac : F32 := 0x3EE66666#32
/-- `HC_BYPASS`, 20000.0. -/
def hcBypass : F32 := 0x469C4000#32
/-- `KW_HP_HZ`, 38.0. -/
def kwHpHz : F32 := 0x42180000#32
/-- `KW_SHELF_HZ`, 4000.0. -/
def kwShelfHz : F32 := 0x457A0000#32
/-- `KW_SHELF_DB`, 4.0. -/
def kwShelfDb : F32 := 0x40800000#32
/-- `LM_DIFF_MAX`, 12.0. -/
def lmDiffMax : F32 := 0x41400000#32
/-- `LM_G_OLD`, 0.95. -/
def lmGOld : F32 := 0x3F733333#32
/-- `LM_G_NEW`, 0.05. -/
def lmGNew : F32 := 0x3D4CCCCD#32
/-- `LM_ENGAGE_DB`, 0.1. -/
def lmEngageDb : F32 := 0x3DCCCCCD#32
/-- `GAIN_RANGE` low end, -40.0. -/
def gainLo : F32 := 0xC2200000#32
/-- `GAIN_RANGE` high end, 40.0. -/
def gainHi : F32 := 0x42200000#32
/-- `DRIVE_RANGE` low end, 0.0. -/
def driveLo : F32 := 0x00000000#32
/-- `DRIVE_RANGE` high end, 30.0. -/
def driveHi : F32 := 0x41F00000#32
/-- Low end of `MIX_RANGE` and `STRENGTH_RANGE`, 0.0. -/
def pctLo : F32 := 0x00000000#32
/-- High end of `MIX_RANGE` and `STRENGTH_RANGE`, 100.0. -/
def pctHi : F32 := 0x42C80000#32
/-- `REACTION_RANGE` low end, 10.0. -/
def reactionLo : F32 := 0x41200000#32
/-- `REACTION_RANGE` high end, 1000.0. -/
def reactionHi : F32 := 0x447A0000#32
/-- `NUM_ALGS`. -/
def numAlgs : Nat := 5
/-- The highest algorithm index. -/
def algMax : Nat := numAlgs - 1
/-- `NUM_CURVES`. -/
def numCurves : Nat := 5
/-- The highest curve index. -/
def curveMax : Nat := numCurves - 1

/-! ## Identification (R1, R26) -/

/-- The word `ID` reads. -/
def idWord : Word := 0x57464641#32
/-- The word `VERSION` reads. -/
def versionWord : Word := 0x00000001#32

/-! ## R6: the OPEN parameters, unconstrained here -/

/-- A network of binary32 operations (R9) on numbered words and constants: the form of the OPEN parameters that R6
calls linear or a polynomial (log 17). -/
inductive Net where
  | word (j : Nat)
  | const (c : F32)
  | add (a b : Net)
  | sub (a b : Net)
  | mul (a b : Net)
deriving DecidableEq, Repr, Inhabited

/-- `EXP` before R6's constraints. -/
opaque expRaw : F32 → F32
/-- `LOG10` before R6's constraints. -/
opaque log10Raw : F32 → F32
/-- `POW10` before R6's constraints. -/
opaque pow10Raw : F32 → F32
/-- `SIN` before R6's constraints. -/
opaque sinRaw : F32 → F32
/-- `COS` before R6's constraints. -/
opaque cosRaw : F32 → F32
/-- `TANH` before R6's constraints. -/
opaque tanhRaw : F32 → F32
/-- `P_TRANS_ULP`. -/
opaque transUlp : Nat
/-- `DFT2048` before R6's constraints: the real and imaginary parts of bin `k`. -/
opaque dftRaw : List F32 → Nat → F32 × F32
/-- `P_DFT_TOL` before its constraint. -/
opaque dftTolRaw : Rat
/-- The words of `P_OS_UP`'s new state, before R6's constraints (log 6, log 17). -/
opaque osUpStateRaw : List Net
/-- Output `k` of `P_OS_UP`, before R6's constraints. -/
opaque osUpRaw : Nat → Net
/-- The words of `P_OS_DOWN`'s new state, before R6's constraints. -/
opaque osDownStateRaw : List Net
/-- The output of `P_OS_DOWN`, before R6's constraints. -/
opaque osDownRaw : Net
/-- `P_TUBE_STAGE[j]`, `j = 1..3`, before R6's constraint. -/
opaque tubeStageRaw : Nat → F32 → F32
/-- `P_TUBE_XFMR` before R6's constraint. -/
opaque tubeXfmrRaw : F32 → F32
/-- `P_TUBE_HYST`. -/
opaque tubeHystRaw : F32
/-- `P_TAPE_BIAS_AMP`. -/
opaque tapeBiasAmpRaw : F32
/-- `P_TAPE_BIAS_INC`. -/
opaque tapeBiasIncRaw : F32
/-- `P_TAPE_SAT`. -/
opaque tapeSatRaw : F32 → F32
/-- `P_XS_LOW`, as a network on the sample, before R6's constraints (log 17). -/
opaque xsLowRaw : Net
/-- `P_XS_HIGH`. -/
opaque xsHighRaw : F32 → F32
/-- `P_DIODE_IS`. -/
opaque diodeIsRaw : F32
/-- `P_DIODE_K`. -/
opaque diodeKRaw : F32
/-- `P_FUZZ_VT`. -/
opaque fuzzVtRaw : F32 → F32
/-- `P_FUZZ_S1`, of the sample, the thermal voltage and the memory. -/
opaque fuzzS1Raw : F32 → F32 → F32 → F32
/-- `P_FUZZ_S2`, of the first stage's value and the memory. -/
opaque fuzzS2Raw : F32 → F32 → F32
/-- `P_TAU_RMS`. -/
opaque tauRmsRaw : F32
/-- `P_TAU_PEAK`. -/
opaque tauPeakRaw : F32
/-- `P_TC[curve][band]`, `curve = 1..4`. -/
opaque tcRaw : Nat → Nat → F32
/-- `P_LOUDNESS`, of `rmsK`, `rms` and `peak`. -/
opaque loudnessRaw : F32 → F32 → F32 → F32
/-- `P_TAU_ATT`. -/
opaque tauAttRaw : F32
/-- `P_TAU_REL`. -/
opaque tauRelRaw : F32

/-! ## Free values -/

/-- The cells a command can write, as names for the free values of R172. -/
inductive FreeCell where
  | sample (c i : Nat)
  | result
  | tubeH (c : Nat) | tapePhi (c : Nat) | tapeM (c : Nat) | tapePrev (c : Nat)
  | xsFb (c : Nat) | fuzzDrift (c : Nat) | fuzzM1 (c : Nat) | fuzzM2 (c : Nat)
  | inMs (c : Nat) | inPk (c : Nat) | outMs (c : Nat) | outPk (c : Nat)
  | eqGain (b : Nat) | eqTarget (b : Nat) | eqSgain (b : Nat) | eqSspec (b : Nat)
  | eqCoef (b k : Nat) | eqState (c b k : Nat)
  | spaBuf (n : Nat) | spaSpec (k : Nat)
  | firTap (inst : Nat) (high : Bool) (i : Nat)
  | firCut (inst : Nat) (high : Bool)
  | firLine (inst : Nat) (high : Bool) (c j : Nat)
  | lmInLoud | lmOutLoud | lmTarget | lmCompDb | lmGs
  | kw (out : Bool) (c k : Nat)
deriving DecidableEq, Repr

/-- The value a cell holds after a command that read a non-finite sample, for the n-th such draw (R172; log 2). -/
opaque freeCell : Nat → FreeCell → F32
/-- The oversampler state after such a command: draw, channel, and whether it is `os_up` (R172; log 2). -/
opaque freeOs : Nat → Nat → Bool → OsState
/-- What a monitor register reads while a command runs, for the n-th such read (R168; log 4). -/
opaque freeMonitor : Nat → Word
/-- What a byte of sample RAM holds that nothing has written since reset number `epoch` (R39, R187; log 1). -/
opaque freeRam : Nat → Nat → Byte
/-- The pattern of a NaN that an operation produces, by operation and operands (93 S4; log 3). -/
opaque freeNaN : Nat → F32 → F32 → F32

end Sys2Proof.Config
end

