-- ==== Sys2Proof/Syntax.lean ====
section
/-!
DEFINITION. The instructions of the block: one constructor per row of spec/opcode_table.json, the 17
command words (30_encoding.md R65) and the 66 bus operations (R66). Operand counts and indexes are
numbers; WellFormed.lean says which the encoding admits.
-/

namespace Sys2Proof

/-- An instruction: a command word, or one aligned 32-bit bus transaction. -/
inductive Instr where
  /-- `NOP`, command `OP = 0x00`, format `CN` (R76). -/
  | nop
  /-- `PREPARE`, command `OP = 0x01`, format `CN` (R77). -/
  | prepare
  /-- `RESET_ALL`, command `OP = 0x02`, format `CN` (R78). -/
  | resetAll
  /-- `SPA_RESET`, command `OP = 0x10`, format `CN` (R131). -/
  | spaReset
  /-- `SPA_PRODUCE`, command `OP = 0x11`, format `BN` (R132). -/
  | spaProduce (ns : Nat)
  /-- `FIR_RESET`, command `OP = 0x20`, format `CI` (R142). -/
  | firReset (inst : Nat)
  /-- `FIR_PROCESS`, command `OP = 0x21`, format `BI` (R143). -/
  | firProcess (inst ns : Nat)
  /-- `PEQ_RESET`, command `OP = 0x30`, format `CN` (R118). -/
  | peqReset
  /-- `PEQ_PROCESS`, command `OP = 0x31`, format `BN` (R119). -/
  | peqProcess (ns : Nat)
  /-- `WS_RESET`, command `OP = 0x40`, format `CN` (R103). -/
  | wsReset
  /-- `WS_PROCESS`, command `OP = 0x41`, format `BN` (R104). -/
  | wsProcess (ns : Nat)
  /-- `WS_CURVE`, command `OP = 0x42`, format `CN` (R114). -/
  | wsCurve
  /-- `LM_RESET`, command `OP = 0x50`, format `CN` (R150). -/
  | lmReset
  /-- `LM_ANALYZE_IN`, command `OP = 0x51`, format `BN` (R152). -/
  | lmAnalyzeIn (ns : Nat)
  /-- `LM_ANALYZE_OUT`, command `OP = 0x52`, format `BN` (R153). -/
  | lmAnalyzeOut (ns : Nat)
  /-- `LM_APPLY`, command `OP = 0x53`, format `BN` (R154). -/
  | lmApply (ns : Nat)
  /-- `CHAIN_PROCESS`, command `OP = 0x60`, format `BN` (R157). -/
  | chainProcess (ns : Nat)
  /-- `RD.ID`, read of `0x000` (R83). -/
  | rdId
  /-- `RD.VERSION`, read of `0x004` (R83). -/
  | rdVersion
  /-- `RD.CMD`, read of `0x008` (R83). -/
  | rdCmd
  /-- `RD.STATUS`, read of `0x00C` (R83). -/
  | rdStatus
  /-- `RD.ERR_CODE`, read of `0x010` (R83). -/
  | rdErrCode
  /-- `RD.ERR_INFO`, read of `0x014` (R83). -/
  | rdErrInfo
  /-- `RD.IRQ_EN`, read of `0x018` (R83). -/
  | rdIrqEn
  /-- `RD.ARG`, read of `0x01C` (R83). -/
  | rdArg
  /-- `RD.RESULT`, read of `0x020` (R83). -/
  | rdResult
  /-- `RD.CFG_FS`, read of `0x030` (R83). -/
  | rdCfgFs
  /-- `RD.CFG_MAXBLOCK`, read of `0x034` (R83). -/
  | rdCfgMaxblock
  /-- `RD.CFG_CHANNELS`, read of `0x038` (R83). -/
  | rdCfgChannels
  /-- `RD.PREP_FS`, read of `0x040` (R83). -/
  | rdPrepFs
  /-- `RD.PREP_MAXBLOCK`, read of `0x044` (R83). -/
  | rdPrepMaxblock
  /-- `RD.PREP_CHANNELS`, read of `0x048` (R83). -/
  | rdPrepChannels
  /-- `WR.CMD`, write of `0x008` (R74). -/
  | wrCmd (w : Word)
  /-- `WR.STATUS`, write of `0x00C` (R79). -/
  | wrStatus (w : Word)
  /-- `WR.IRQ_EN`, write of `0x018` (R80). -/
  | wrIrqEn (w : Word)
  /-- `WR.ARG`, write of `0x01C` (R81). -/
  | wrArg (w : Word)
  /-- `WR.CFG_FS`, write of `0x030` (R82). -/
  | wrCfgFs (w : Word)
  /-- `WR.CFG_MAXBLOCK`, write of `0x034` (R82). -/
  | wrCfgMaxblock (w : Word)
  /-- `WR.CFG_CHANNELS`, write of `0x038` (R82). -/
  | wrCfgChannels (w : Word)
  /-- `WR.IN_GAIN_DB`, write of `0x100` (R88). -/
  | wrInGainDb (w : Word)
  /-- `WR.OUT_GAIN_DB`, write of `0x104` (R89). -/
  | wrOutGainDb (w : Word)
  /-- `WR.DRIVE_DB`, write of `0x108` (R90). -/
  | wrDriveDb (w : Word)
  /-- `WR.MIX_PCT`, write of `0x10C` (R91). -/
  | wrMixPct (w : Word)
  /-- `WR.ALGORITHM`, write of `0x110` (R92). -/
  | wrAlgorithm (w : Word)
  /-- `WR.SOLO`, write of `0x114` (R93). -/
  | wrSolo (w : Word)
  /-- `WR.LOWCUT_HZ`, write of `0x118` (R94). -/
  | wrLowcutHz (w : Word)
  /-- `WR.HIGHCUT_HZ`, write of `0x11C` (R95). -/
  | wrHighcutHz (w : Word)
  /-- `WR.FILTER_EN`, write of `0x120` (R96). -/
  | wrFilterEn (w : Word)
  /-- `WR.EQ_EN`, write of `0x124` (R97). -/
  | wrEqEn (w : Word)
  /-- `WR.EQ_CURVE`, write of `0x128` (R98). -/
  | wrEqCurve (w : Word)
  /-- `WR.EQ_STRENGTH_PCT`, write of `0x12C` (R99). -/
  | wrEqStrengthPct (w : Word)
  /-- `WR.EQ_REACTION_MS`, write of `0x130` (R100). -/
  | wrEqReactionMs (w : Word)
  /-- `RD.IN_GAIN_DB`, read of `0x100` (R101). -/
  | rdInGainDb
  /-- `RD.OUT_GAIN_DB`, read of `0x104` (R101). -/
  | rdOutGainDb
  /-- `RD.DRIVE_DB`, read of `0x108` (R101). -/
  | rdDriveDb
  /-- `RD.MIX_PCT`, read of `0x10C` (R101). -/
  | rdMixPct
  /-- `RD.ALGORITHM`, read of `0x110` (R101). -/
  | rdAlgorithm
  /-- `RD.SOLO`, read of `0x114` (R101). -/
  | rdSolo
  /-- `RD.LOWCUT_HZ`, read of `0x118` (R101). -/
  | rdLowcutHz
  /-- `RD.HIGHCUT_HZ`, read of `0x11C` (R101). -/
  | rdHighcutHz
  /-- `RD.FILTER_EN`, read of `0x120` (R101). -/
  | rdFilterEn
  /-- `RD.EQ_EN`, read of `0x124` (R101). -/
  | rdEqEn
  /-- `RD.EQ_CURVE`, read of `0x128` (R101). -/
  | rdEqCurve
  /-- `RD.EQ_STRENGTH_PCT`, read of `0x12C` (R101). -/
  | rdEqStrengthPct
  /-- `RD.EQ_REACTION_MS`, read of `0x130` (R101). -/
  | rdEqReactionMs
  /-- `RD.WS_IN_RMS`, read of `0x200 + 4*slot` (R160). -/
  | rdWsInRms (slot : Nat)
  /-- `RD.WS_IN_PEAK`, read of `0x220 + 4*slot` (R160). -/
  | rdWsInPeak (slot : Nat)
  /-- `RD.WS_OUT_RMS`, read of `0x240 + 4*slot` (R160). -/
  | rdWsOutRms (slot : Nat)
  /-- `RD.WS_OUT_PEAK`, read of `0x260 + 4*slot` (R160). -/
  | rdWsOutPeak (slot : Nat)
  /-- `RD.EQ_GAIN`, read of `0x280 + 4*band` (R161). -/
  | rdEqGain (band : Nat)
  /-- `RD.EQ_TARGET`, read of `0x2A0 + 4*band` (R161). -/
  | rdEqTarget (band : Nat)
  /-- `RD.EQ_SPECTRUM`, read of `0x2C0 + 4*band` (R161). -/
  | rdEqSpectrum (band : Nat)
  /-- `RD.LM_COMP_DB`, read of `0x2E0` (R162). -/
  | rdLmCompDb
  /-- `RD.LM_IN_LOUD`, read of `0x2E4` (R162). -/
  | rdLmInLoud
  /-- `RD.LM_OUT_LOUD`, read of `0x2E8` (R162). -/
  | rdLmOutLoud
  /-- `RD.LM_TARGET`, read of `0x2EC` (R162). -/
  | rdLmTarget
  /-- `RD.LM_GAIN_LIN`, read of `0x2F0` (R162). -/
  | rdLmGainLin
  /-- `RD.SPA_WPOS`, read of `0x2F4` (R163). -/
  | rdSpaWpos
  /-- `RD.SPA_COUNT`, read of `0x2F8` (R163). -/
  | rdSpaCount
  /-- `RD.SPEC`, read of `0x8000 + 4*k` (R164). -/
  | rdSpec (k : Nat)
  /-- `RD.BINFREQ`, read of `0x9000 + 4*k` (R165). -/
  | rdBinfreq (k : Nat)
  /-- `RD.SAMPLE`, read of `SADDR(c, i)` (R166). -/
  | rdSample (c i : Nat)
  /-- `WR.SAMPLE`, write of `SADDR(c, i)` (R167). -/
  | wrSample (c i : Nat) (w : Word)
deriving DecidableEq, Repr

end Sys2Proof
end

