-- ==== Sys2Proof/Decode.lean ====
section
/-!
DEFINITION. Decoding of what the host presents (30_encoding.md): a command word written to CMD (R59 to R62,
R65, R68), or a bus transaction (R64, R66, R69; 20_memory.md R45, R46). Total; what is not an instruction
is rejected by the name of the error the block records. The encoder stands after it.
-/

namespace Sys2Proof

/-- A bus transaction (R64): direction, byte offset, size in bytes, and the word of a write. -/
structure Txn where
  write : Bool
  addr : BitVec 18
  size : Nat
  wdata : Word
deriving DecidableEq, Repr

/-- What the host presents: a word written to CMD and left to complete (`RUN` of R73; log 10), or one
bus transaction. -/
inductive Access where
  | command (w : Word)
  | bus (t : Txn)
deriving DecidableEq, Repr

/-- Why an access is no instruction. -/
inductive Reject where
  /-- No row of R65 matches the command word (R68). -/
  | badCmd
  /-- A width other than 32 bits, or a misaligned address (R45). -/
  | badAccess
  /-- Unmapped, or a write to a read-only location (R46, R69). -/
  | badAddr
deriving DecidableEq, Repr

/-! ## Command words -/

/-- The command formats of R61: which fields a command uses; the others must be 0. -/
inductive Format where
  | cn | ci | bn | bi
deriving DecidableEq, Repr

/-- Whether a format uses `INST` (R61). -/
def Format.hasInst : Format → Bool
  | .ci | .bi => true
  | .cn | .bn => false

/-- Whether a format uses `NS` (R61). -/
def Format.hasNs : Format → Bool
  | .bn | .bi => true
  | .cn | .ci => false

/-- A row of R65: opcode, format, and the instruction made from `INST` and `NS`. -/
structure CmdRow where
  op : Nat
  format : Format
  build : Nat → Nat → Instr

/-- `OP`, bits 7:0 (R59). -/
def fieldOp (w : Word) : Nat := w.toNat % 2 ^ 8
/-- `INST`, bit 8 (R59). -/
def fieldInst (w : Word) : Nat := w.toNat / 2 ^ 8 % 2
/-- `RSV`, bits 15:9 (R59). -/
def fieldRsv (w : Word) : Nat := w.toNat / 2 ^ 9 % 2 ^ 7
/-- `NS`, bits 31:16 (R59, R60). -/
def fieldNs (w : Word) : Nat := w.toNat / 2 ^ 16

/-- The opcode map of R65. -/
def cmdRows : List CmdRow :=
  [⟨0x00, .cn, fun _ _ => .nop⟩,
   ⟨0x01, .cn, fun _ _ => .prepare⟩,
   ⟨0x02, .cn, fun _ _ => .resetAll⟩,
   ⟨0x10, .cn, fun _ _ => .spaReset⟩,
   ⟨0x11, .bn, fun _ ns => .spaProduce ns⟩,
   ⟨0x20, .ci, fun inst _ => .firReset inst⟩,
   ⟨0x21, .bi, fun inst ns => .firProcess inst ns⟩,
   ⟨0x30, .cn, fun _ _ => .peqReset⟩,
   ⟨0x31, .bn, fun _ ns => .peqProcess ns⟩,
   ⟨0x40, .cn, fun _ _ => .wsReset⟩,
   ⟨0x41, .bn, fun _ ns => .wsProcess ns⟩,
   ⟨0x42, .cn, fun _ _ => .wsCurve⟩,
   ⟨0x50, .cn, fun _ _ => .lmReset⟩,
   ⟨0x51, .bn, fun _ ns => .lmAnalyzeIn ns⟩,
   ⟨0x52, .bn, fun _ ns => .lmAnalyzeOut ns⟩,
   ⟨0x53, .bn, fun _ ns => .lmApply ns⟩,
   ⟨0x60, .bn, fun _ ns => .chainProcess ns⟩]

/-- A word matches a row: its opcode, and 0 in every field the format does not use (R61). -/
def CmdRow.holds (r : CmdRow) (w : Word) : Bool :=
  r.op == fieldOp w && fieldRsv w == 0 && (r.format.hasInst || fieldInst w == 0) &&
    (r.format.hasNs || fieldNs w == 0)

/-- The command a word written to CMD names; `BAD_CMD` where no row matches (R67, R68). -/
def decodeCommand (w : Word) : Except Reject Instr :=
  match cmdRows.find? (fun r => r.holds w) with
  | some r => .ok (r.build (fieldInst w) (fieldNs w))
  | none => .error .badCmd

/-! ## Bus transactions -/

/-- A row of R66: the key of its first word, how many words it has, and the instruction made from the
word's index and the data. -/
structure BusRow where
  key : Nat
  count : Nat
  build : Nat → Word → Instr

/-- The keys of writes have bit 18 set (R64). -/
def writeKey : Nat := 2 ^ 18

/-- Reads of the control registers (R66, R22). -/
def ctlReadRows : List BusRow :=
  [⟨0x000, 1, fun _ _ => .rdId⟩,
   ⟨0x004, 1, fun _ _ => .rdVersion⟩,
   ⟨0x008, 1, fun _ _ => .rdCmd⟩,
   ⟨0x00C, 1, fun _ _ => .rdStatus⟩,
   ⟨0x010, 1, fun _ _ => .rdErrCode⟩,
   ⟨0x014, 1, fun _ _ => .rdErrInfo⟩,
   ⟨0x018, 1, fun _ _ => .rdIrqEn⟩,
   ⟨0x01C, 1, fun _ _ => .rdArg⟩,
   ⟨0x020, 1, fun _ _ => .rdResult⟩,
   ⟨0x030, 1, fun _ _ => .rdCfgFs⟩,
   ⟨0x034, 1, fun _ _ => .rdCfgMaxblock⟩,
   ⟨0x038, 1, fun _ _ => .rdCfgChannels⟩,
   ⟨0x040, 1, fun _ _ => .rdPrepFs⟩,
   ⟨0x044, 1, fun _ _ => .rdPrepMaxblock⟩,
   ⟨0x048, 1, fun _ _ => .rdPrepChannels⟩]

/-- Writes of the control registers (R66). -/
def ctlWriteRows : List BusRow :=
  [⟨writeKey + 0x008, 1, fun _ w => .wrCmd w⟩,
   ⟨writeKey + 0x00C, 1, fun _ w => .wrStatus w⟩,
   ⟨writeKey + 0x018, 1, fun _ w => .wrIrqEn w⟩,
   ⟨writeKey + 0x01C, 1, fun _ w => .wrArg w⟩,
   ⟨writeKey + 0x030, 1, fun _ w => .wrCfgFs w⟩,
   ⟨writeKey + 0x034, 1, fun _ w => .wrCfgMaxblock w⟩,
   ⟨writeKey + 0x038, 1, fun _ w => .wrCfgChannels w⟩]

/-- Writes of the parameter registers (R66). -/
def paramWriteRows : List BusRow :=
  [⟨writeKey + 0x100, 1, fun _ w => .wrInGainDb w⟩,
   ⟨writeKey + 0x104, 1, fun _ w => .wrOutGainDb w⟩,
   ⟨writeKey + 0x108, 1, fun _ w => .wrDriveDb w⟩,
   ⟨writeKey + 0x10C, 1, fun _ w => .wrMixPct w⟩,
   ⟨writeKey + 0x110, 1, fun _ w => .wrAlgorithm w⟩,
   ⟨writeKey + 0x114, 1, fun _ w => .wrSolo w⟩,
   ⟨writeKey + 0x118, 1, fun _ w => .wrLowcutHz w⟩,
   ⟨writeKey + 0x11C, 1, fun _ w => .wrHighcutHz w⟩,
   ⟨writeKey + 0x120, 1, fun _ w => .wrFilterEn w⟩,
   ⟨writeKey + 0x124, 1, fun _ w => .wrEqEn w⟩,
   ⟨writeKey + 0x128, 1, fun _ w => .wrEqCurve w⟩,
   ⟨writeKey + 0x12C, 1, fun _ w => .wrEqStrengthPct w⟩,
   ⟨writeKey + 0x130, 1, fun _ w => .wrEqReactionMs w⟩]

/-- Reads of the parameter registers (R66). -/
def paramReadRows : List BusRow :=
  [⟨0x100, 1, fun _ _ => .rdInGainDb⟩,
   ⟨0x104, 1, fun _ _ => .rdOutGainDb⟩,
   ⟨0x108, 1, fun _ _ => .rdDriveDb⟩,
   ⟨0x10C, 1, fun _ _ => .rdMixPct⟩,
   ⟨0x110, 1, fun _ _ => .rdAlgorithm⟩,
   ⟨0x114, 1, fun _ _ => .rdSolo⟩,
   ⟨0x118, 1, fun _ _ => .rdLowcutHz⟩,
   ⟨0x11C, 1, fun _ _ => .rdHighcutHz⟩,
   ⟨0x120, 1, fun _ _ => .rdFilterEn⟩,
   ⟨0x124, 1, fun _ _ => .rdEqEn⟩,
   ⟨0x128, 1, fun _ _ => .rdEqCurve⟩,
   ⟨0x12C, 1, fun _ _ => .rdEqStrengthPct⟩,
   ⟨0x130, 1, fun _ _ => .rdEqReactionMs⟩]

/-- Reads of the monitor registers (R66). -/
def monitorRows : List BusRow :=
  [⟨0x200, 8, fun j _ => .rdWsInRms j⟩,
   ⟨0x220, 8, fun j _ => .rdWsInPeak j⟩,
   ⟨0x240, 8, fun j _ => .rdWsOutRms j⟩,
   ⟨0x260, 8, fun j _ => .rdWsOutPeak j⟩,
   ⟨0x280, 8, fun j _ => .rdEqGain j⟩,
   ⟨0x2A0, 8, fun j _ => .rdEqTarget j⟩,
   ⟨0x2C0, 8, fun j _ => .rdEqSpectrum j⟩,
   ⟨0x2E0, 1, fun _ _ => .rdLmCompDb⟩,
   ⟨0x2E4, 1, fun _ _ => .rdLmInLoud⟩,
   ⟨0x2E8, 1, fun _ _ => .rdLmOutLoud⟩,
   ⟨0x2EC, 1, fun _ _ => .rdLmTarget⟩,
   ⟨0x2F0, 1, fun _ _ => .rdLmGainLin⟩,
   ⟨0x2F4, 1, fun _ _ => .rdSpaWpos⟩,
   ⟨0x2F8, 1, fun _ _ => .rdSpaCount⟩]

/-- The RAM windows (R66); the sample rows have `C_MAX` slots of `N_MAX = 4096` words. -/
def windowRows : List BusRow :=
  [⟨0x08000, 1024, fun j _ => .rdSpec j⟩,
   ⟨0x09000, 1024, fun j _ => .rdBinfreq j⟩,
   ⟨0x10000, Config.cMax * 4096, fun j _ => .rdSample (j / 4096) (j % 4096)⟩,
   ⟨writeKey + 0x10000, Config.cMax * 4096, fun j w => .wrSample (j / 4096) (j % 4096) w⟩]

/-- The bus-operation map of R66. -/
def busRows : List BusRow :=
  ctlReadRows ++ ctlWriteRows ++ paramWriteRows ++ paramReadRows ++ monitorRows ++ windowRows

/-- A key falls on one of a row's words. -/
def BusRow.holds (r : BusRow) (k : Nat) : Bool := decide (r.key ≤ k) && decide (k < r.key + 4 * r.count)

/-- The key of a transaction (R64). -/
def Txn.key (t : Txn) : Nat := (if t.write then writeKey else 0) + t.addr.toNat

/-- The bus operation at a key whose address is a multiple of 4 (R66). -/
def decodeKey (k : Nat) (w : Word) : Except Reject Instr :=
  match busRows.find? (fun r => r.holds k) with
  | some r => .ok (r.build ((k - r.key) / 4) w)
  | none => .error .badAddr

/-- The bus operation a transaction is; width and alignment are checked first (R45, R46, R64). -/
def decodeTxn (t : Txn) : Except Reject Instr :=
  if t.size ≠ 4 ∨ t.addr.toNat % 4 ≠ 0 then .error .badAccess else decodeKey t.key t.wdata

/-- The instruction an access is. -/
def decode : Access → Except Reject Instr
  | .command w => decodeCommand w
  | .bus t => decodeTxn t

/-! ## The encoder -/

/-- A command word from its fields (R59). -/
def cmdWord (op inst ns : Nat) : Word := BitVec.ofNat 32 (op + inst * 2 ^ 8 + ns * 2 ^ 16)

/-- An aligned 32-bit read (R64). -/
def readAt (a : Nat) : Access := .bus ⟨false, BitVec.ofNat 18 a, 4, 0⟩

/-- An aligned 32-bit write (R64). -/
def writeAt (a : Nat) (w : Word) : Access := .bus ⟨true, BitVec.ofNat 18 a, 4, w⟩

/-- `SADDR(c, i)` (R14). -/
def saddr (c i : Nat) : Nat := 0x10000 + 0x4000 * c + 4 * i

/-- The access that presents an instruction (R59, R65, R66). -/
def encode : Instr → Access
  | .nop => .command (cmdWord 0x00 0 0)
  | .prepare => .command (cmdWord 0x01 0 0)
  | .resetAll => .command (cmdWord 0x02 0 0)
  | .spaReset => .command (cmdWord 0x10 0 0)
  | .spaProduce ns => .command (cmdWord 0x11 0 ns)
  | .firReset inst => .command (cmdWord 0x20 inst 0)
  | .firProcess inst ns => .command (cmdWord 0x21 inst ns)
  | .peqReset => .command (cmdWord 0x30 0 0)
  | .peqProcess ns => .command (cmdWord 0x31 0 ns)
  | .wsReset => .command (cmdWord 0x40 0 0)
  | .wsProcess ns => .command (cmdWord 0x41 0 ns)
  | .wsCurve => .command (cmdWord 0x42 0 0)
  | .lmReset => .command (cmdWord 0x50 0 0)
  | .lmAnalyzeIn ns => .command (cmdWord 0x51 0 ns)
  | .lmAnalyzeOut ns => .command (cmdWord 0x52 0 ns)
  | .lmApply ns => .command (cmdWord 0x53 0 ns)
  | .chainProcess ns => .command (cmdWord 0x60 0 ns)
  | .rdId => readAt 0x000
  | .rdVersion => readAt 0x004
  | .rdCmd => readAt 0x008
  | .rdStatus => readAt 0x00C
  | .rdErrCode => readAt 0x010
  | .rdErrInfo => readAt 0x014
  | .rdIrqEn => readAt 0x018
  | .rdArg => readAt 0x01C
  | .rdResult => readAt 0x020
  | .rdCfgFs => readAt 0x030
  | .rdCfgMaxblock => readAt 0x034
  | .rdCfgChannels => readAt 0x038
  | .rdPrepFs => readAt 0x040
  | .rdPrepMaxblock => readAt 0x044
  | .rdPrepChannels => readAt 0x048
  | .wrCmd w => writeAt 0x008 w
  | .wrStatus w => writeAt 0x00C w
  | .wrIrqEn w => writeAt 0x018 w
  | .wrArg w => writeAt 0x01C w
  | .wrCfgFs w => writeAt 0x030 w
  | .wrCfgMaxblock w => writeAt 0x034 w
  | .wrCfgChannels w => writeAt 0x038 w
  | .wrInGainDb w => writeAt 0x100 w
  | .wrOutGainDb w => writeAt 0x104 w
  | .wrDriveDb w => writeAt 0x108 w
  | .wrMixPct w => writeAt 0x10C w
  | .wrAlgorithm w => writeAt 0x110 w
  | .wrSolo w => writeAt 0x114 w
  | .wrLowcutHz w => writeAt 0x118 w
  | .wrHighcutHz w => writeAt 0x11C w
  | .wrFilterEn w => writeAt 0x120 w
  | .wrEqEn w => writeAt 0x124 w
  | .wrEqCurve w => writeAt 0x128 w
  | .wrEqStrengthPct w => writeAt 0x12C w
  | .wrEqReactionMs w => writeAt 0x130 w
  | .rdInGainDb => readAt 0x100
  | .rdOutGainDb => readAt 0x104
  | .rdDriveDb => readAt 0x108
  | .rdMixPct => readAt 0x10C
  | .rdAlgorithm => readAt 0x110
  | .rdSolo => readAt 0x114
  | .rdLowcutHz => readAt 0x118
  | .rdHighcutHz => readAt 0x11C
  | .rdFilterEn => readAt 0x120
  | .rdEqEn => readAt 0x124
  | .rdEqCurve => readAt 0x128
  | .rdEqStrengthPct => readAt 0x12C
  | .rdEqReactionMs => readAt 0x130
  | .rdWsInRms slot => readAt (0x200 + 4 * slot)
  | .rdWsInPeak slot => readAt (0x220 + 4 * slot)
  | .rdWsOutRms slot => readAt (0x240 + 4 * slot)
  | .rdWsOutPeak slot => readAt (0x260 + 4 * slot)
  | .rdEqGain band => readAt (0x280 + 4 * band)
  | .rdEqTarget band => readAt (0x2A0 + 4 * band)
  | .rdEqSpectrum band => readAt (0x2C0 + 4 * band)
  | .rdLmCompDb => readAt 0x2E0
  | .rdLmInLoud => readAt 0x2E4
  | .rdLmOutLoud => readAt 0x2E8
  | .rdLmTarget => readAt 0x2EC
  | .rdLmGainLin => readAt 0x2F0
  | .rdSpaWpos => readAt 0x2F4
  | .rdSpaCount => readAt 0x2F8
  | .rdSpec k => readAt (0x8000 + 4 * k)
  | .rdBinfreq k => readAt (0x9000 + 4 * k)
  | .rdSample c i => readAt (saddr c i)
  | .wrSample c i w => writeAt (saddr c i) w

/-! ## The opcode table's numbering -/

/-- The access a row of spec/opcode_table.json stands for: a bus row is a 19-bit key, three bytes, with a data
word of zeros; every other row is a command word (R64, R59; log 21). -/
def tableAccess (nbits w : Nat) : Access :=
  if nbits = 24 then .bus ⟨decide (w / writeKey % 2 = 1), BitVec.ofNat 18 w, 4, 0⟩
  else .command (BitVec.ofNat 32 w)

/-- The instruction the decoder reads from a row's bits. -/
def decodeTableWord (nbits w : Nat) : Option Instr :=
  match decode (tableAccess nbits w) with
  | .ok i => some i
  | .error _ => none

end Sys2Proof
end

