-- ==== Sys2Proof/Machine/Fp.lean ====
section
/-!
DEFINITION. IEEE 754 binary32 arithmetic, round to nearest even, one operation at a time (00_scope.md
R8, R9, R11, R13, R71). A finite value is an exact integer count of units of `2^-149`; every operation
computes the exact result as a ratio of integers in that unit and rounds it once (`roundRatio`).
-/

namespace Sys2Proof.Machine.Fp

/-! ## Named patterns -/

/-- `+0.0`. -/
def zero : F32 := 0x00000000#32
/-- `1.0`. -/
def one : F32 := 0x3F800000#32
/-- `-1.0`. -/
def negOne : F32 := 0xBF800000#32
/-- `0.5`. -/
def half : F32 := 0x3F000000#32
/-- `2.0`. -/
def two : F32 := 0x40000000#32
/-- `-2.0`. -/
def negTwo : F32 := 0xC0000000#32
/-- `10.0`. -/
def ten : F32 := 0x41200000#32
/-- `20.0`. -/
def twenty : F32 := 0x41A00000#32
/-- `40.0`. -/
def forty : F32 := 0x42200000#32
/-- `100.0`. -/
def hundred : F32 := 0x42C80000#32
/-- `1000.0`. -/
def thousand : F32 := 0x447A0000#32
/-- `pi`, the binary32 nearest to π (R9). -/
def pi : F32 := 0x40490FDB#32
/-- `2*pi` (R9). -/
def twoPi : F32 := 0x40C90FDB#32

/-! ## The layout of R71 -/

/-- The pattern without its sign bit, as a number. -/
def magBits (x : F32) : Nat := x.toNat % 2 ^ 31

/-- The sign bit. -/
def signBit (x : F32) : Bool := decide (2 ^ 31 ≤ x.toNat)

/-- Exponent all ones, fraction not zero. -/
def isNaN (x : F32) : Bool := decide (0x7F800000 < magBits x)

/-- Exponent all ones, fraction zero. -/
def isInf (x : F32) : Bool := decide (magBits x = 0x7F800000)

/-- Neither NaN nor infinite. -/
def isFinite (x : F32) : Bool := decide (magBits x < 0x7F800000)

/-- `+0.0` or `-0.0`. -/
def isZero (x : F32) : Bool := decide (magBits x = 0)

/-- The magnitude of a finite value in units of `2^-149`. -/
def mag (x : F32) : Nat :=
  let e := magBits x / 2 ^ 23
  if e = 0 then magBits x else (magBits x % 2 ^ 23 + 2 ^ 23) * 2 ^ (e - 1)

/-- A finite value in units of `2^-149`. -/
def units (x : F32) : Int := if signBit x then -(mag x : Int) else (mag x : Int)

/-- The pattern with the given sign and the given 31 low bits. -/
def ofBits (s : Bool) (b : Nat) : F32 := BitVec.ofNat 32 (b + if s then 2 ^ 31 else 0)

/-- A signed zero. -/
def zeroOf (s : Bool) : F32 := ofBits s 0

/-- A signed infinity. -/
def infOf (s : Bool) : F32 := ofBits s 0x7F800000

/-- A NaN: its sign and payload are free, one among the NaN encodings (93 S4; log 3). -/
def nanOf (op : Nat) (a b : F32) : F32 :=
  if isNaN (Config.freeNaN op a b) then Config.freeNaN op a b else 0x7FC00000#32

/-! ## Rounding -/

/-- `num / den` to the nearest integer, ties to even. -/
def divEven (num den : Nat) : Nat :=
  let q := num / den
  let r := num % den
  if 2 * r < den then q
  else if den < 2 * r then q + 1
  else if q % 2 = 0 then q else q + 1

/-- The binary32 nearest to `num / den` units of `2^-149`, ties to even, with sign `s` (R9). -/
def roundRatio (s : Bool) (num den : Nat) : F32 :=
  let q := Nat.log2 (num / den) - 23
  let b := q * 2 ^ 23 + divEven num (den * 2 ^ q)
  if 0x7F800000 ≤ b then infOf s else ofBits s b

/-- The greatest `r` below `2 ^ k` above `r0` with `r * r ≤ x`, bit by bit. -/
def isqrtGo : Nat → Nat → Nat → Nat
  | 0, _, r => r
  | k + 1, x, r => if (r + 2 ^ k) * (r + 2 ^ k) ≤ x then isqrtGo k x (r + 2 ^ k) else isqrtGo k x r

/-- The integer square root of a number below `2 ^ 428`. -/
def isqrt (x : Nat) : Nat := isqrtGo 214 x 0

/-! ## Operations (R9) -/

/-- `abs(x)` clears the sign bit (R9). -/
def abs (x : F32) : F32 := BitVec.ofNat 32 (magBits x)

/-- `-x`: the sign bit flips; the sign of a NaN is free (log 3). -/
def neg (x : F32) : F32 := if isNaN x then nanOf 0 x x else ofBits (!signBit x) (magBits x)

/-- `a + b`. -/
def add (a b : F32) : F32 :=
  if isNaN a || isNaN b then nanOf 1 a b
  else if isInf a then (if isInf b && signBit a != signBit b then nanOf 1 a b else a)
  else if isInf b then b
  else if units a + units b = 0 then zeroOf (signBit a && signBit b)
  else roundRatio (decide (units a + units b < 0)) (units a + units b).natAbs 1

/-- `a - b`, which is `a + (-b)`. -/
def sub (a b : F32) : F32 :=
  if isNaN a || isNaN b then nanOf 2 a b else add a (neg b)

/-- `a * b`. -/
def mul (a b : F32) : F32 :=
  if isNaN a || isNaN b then nanOf 3 a b
  else if isInf a || isInf b then
    (if isZero a || isZero b then nanOf 3 a b else infOf (signBit a != signBit b))
  else roundRatio (signBit a != signBit b) (mag a * mag b) (2 ^ 149)

/-- `a / b`. -/
def div (a b : F32) : F32 :=
  if isNaN a || isNaN b then nanOf 4 a b
  else if isInf a then (if isInf b then nanOf 4 a b else infOf (signBit a != signBit b))
  else if isInf b then zeroOf (signBit a != signBit b)
  else if isZero b then (if isZero a then nanOf 4 a b else infOf (signBit a != signBit b))
  else roundRatio (signBit a != signBit b) (mag a * 2 ^ 149) (mag b)

/-- `SQRT(x)`: the root's integer part and a sticky bit below it are rounded once. -/
def sqrt (x : F32) : F32 :=
  if isNaN x then nanOf 5 x x
  else if isZero x then x
  else if signBit x then nanOf 5 x x
  else if isInf x then x
  else
    let n := mag x * 2 ^ 149
    let r := isqrt n
    roundRatio false (2 * r + if r * r = n then 0 else 1) 2

/-! ## Comparisons (R9): false on a NaN, and `-0 == +0` -/

/-- The place of a pattern in the order of values: both zeros at 0. -/
def key (x : F32) : Int := if signBit x then -(magBits x : Int) else (magBits x : Int)

/-- `a < b`. -/
def lt (a b : F32) : Bool := !isNaN a && !isNaN b && decide (key a < key b)

/-- `a <= b`. -/
def le (a b : F32) : Bool := !isNaN a && !isNaN b && decide (key a ≤ key b)

/-- `a == b`. -/
def eq (a b : F32) : Bool := !isNaN a && !isNaN b && decide (key a = key b)

/-- `a > b`. -/
def gt (a b : F32) : Bool := lt b a

/-- `a >= b`. -/
def ge (a b : F32) : Bool := le b a

/-- `min(a, b) = (b < a) ? b : a` (R11). -/
def min (a b : F32) : F32 := if lt b a then b else a

/-- `max(a, b) = (b > a) ? b : a` (R11). -/
def max (a b : F32) : F32 := if gt b a then b else a

/-- `clamp(x, lo, hi) = min(max(x, lo), hi)` (R11). -/
def clamp (x lo hi : F32) : F32 := min (max x lo) hi

/-! ## Conversions (R13) -/

/-- `int2f(k)`. -/
def ofInt (k : Int) : F32 := if k = 0 then zero else roundRatio (decide (k < 0)) (k.natAbs * 2 ^ 149) 1

/-- `floor(x)` of a finite value; of no other value is it asked (log 15). -/
def floor (x : F32) : Int := units x / 2 ^ 149

/-- A sum in ascending order, `((e_a + e_b) + ...)` (R9). -/
def sum : List F32 → F32
  | [] => zero
  | x :: xs => xs.foldl add x

end Sys2Proof.Machine.Fp
end

