-- ==== Sys2Proof/Machine/Reference.lean ====
section
/-!
DEFINITION. The real functions that the OPEN functions of 00_scope.md R6 approximate, and the exact transform of
44_fft_analyzer.md R134, as numbers a proof or a run can compute: a real is an integer count of `2^-320`. Every
function value lies within `2^-64` ulps of the real one, which `tolerance` allows for, and every sum within a
quarter of `2^-149`, which `Open.dftTolerance` allows for (log 18).
-/

namespace Sys2Proof.Machine.Reference

open Sys2Proof

/-! ## Fixed point -/

/-- Bits after the binary point. -/
def fracBits : Nat := 320

/-- The number 1. -/
def one : Int := 2 ^ fracBits

/-- A product. -/
def mul (a b : Int) : Int := a * b / one

/-- A quotient. -/
def div (a b : Int) : Int := a * one / b

/-- How many reference units a `2^-149` has. -/
def perUnit : Nat := 2 ^ (fracBits - 149)

/-- The value of a finite binary32 number, exactly. -/
def ofF32 (x : F32) : Int := Fp.units x * perUnit

/-- The binary32 number nearest to a value. -/
def toF32 (r : Int) : F32 := Fp.roundRatio (decide (r < 0)) r.natAbs perUnit

/-! ## Series -/

/-- `t/w(i) + t'/w(i+1) + ...`, where `step i` gives the term after the `i`-th, cut after `fuel` terms. -/
def series (step : Nat → Int → Int) (w : Nat → Int) : Nat → Nat → Int → Int
  | 0, _, _ => 0
  | fuel + 1, i, t => t / w i + series step w fuel (i + 1) (step i t)

/-- `t - t^3/3 + ...` for `sign = -1`, the arctangent; `t + t^3/3 + ...` for `sign = 1`, its hyperbolic twin. -/
def arctan (sign t : Int) : Int := series (fun _ p => sign * mul (mul p t) t) (fun i => 2 * (i : Int) + 1) 110 0 t

/-- `pi`, by Machin's formula. -/
def pi : Int := 4 * (4 * arctan (-1) (one / 5) - arctan (-1) (one / 239))

/-- `ln 2`. -/
def ln2 : Int := 2 * arctan 1 (one / 3)

/-- The natural logarithm of a positive value: the logarithm of its power of two, and of the rest below 2. -/
def ln (r : Int) : Int :=
  let k := Nat.log2 r.natAbs
  let m := r * one / 2 ^ k
  ((k : Int) - fracBits) * ln2 + 2 * arctan 1 (div (m - one) (m + one))

/-- `ln 10`. -/
def ln10 : Int := ln (10 * one)

/-- `n` squarings. -/
def square : Nat → Int → Int
  | 0, r => r
  | n + 1, r => square n (mul r r)

/-- `e^r`; beyond `e^256` a value above every binary32 number, below `e^-256` zero. -/
def exp (r : Int) : Int :=
  if 256 * one < r then one * one
  else if r < -256 * one then 0
  else square 8 (series (fun i t => mul t (r / 256) / ((i : Int) + 1)) (fun _ => 1) 90 0 one)

/-- `10^r`. -/
def pow10 (r : Int) : Int := exp (mul r ln10)

/-- `log10 r` of a positive value. -/
def log10 (r : Int) : Int := div (ln r) ln10

/-- `tanh r` of a value that is not negative. -/
def tanh (r : Int) : Int := div (one - exp (-2 * r)) (one + exp (-2 * r))

/-- An angle less a whole number of turns, within half a turn of 0. -/
def reduce (r : Int) : Int := (r + pi) % (2 * pi) - pi

/-- `sin r`. -/
def sin (r : Int) : Int :=
  let a := reduce r
  series (fun i t => -(mul (mul t a) a) / ((2 * (i : Int) + 2) * (2 * (i : Int) + 3))) (fun _ => 1) 60 0 a

/-- `cos r`. -/
def cos (r : Int) : Int :=
  let a := reduce r
  series (fun i t => -(mul (mul t a) a) / ((2 * (i : Int) + 1) * (2 * (i : Int) + 2))) (fun _ => 1) 60 0 one

/-! ## The transform of R134 -/

/-- The angle of the twiddle factor with index `m`, `2*pi*m/2048`. -/
def angle (m : Nat) : Int := 2 * pi * (m : Int) / Config.spaLen

/-- `cos(2*pi*m/2048)` for every `m`. -/
def cosTable : Array Int := ((List.range Config.spaLen).map (fun m => cos (angle m))).toArray

/-- `sin(2*pi*m/2048)` for every `m`. -/
def sinTable : Array Int := ((List.range Config.spaLen).map (fun m => sin (angle m))).toArray

/-- `X[k]`, real and imaginary part: the sum over `n` of `z[n] * (cos(2*pi*k*n/2048) - i * sin(2*pi*k*n/2048))`
(R134). -/
def dft (z : List F32) (k : Nat) : Int × Int :=
  z.zipIdx.foldl (fun s p =>
    (s.1 + mul (ofF32 p.1) (cosTable.getD (k * p.2 % Config.spaLen) 0),
      s.2 - mul (ofF32 p.1) (sinTable.getD (k * p.2 % Config.spaLen) 0))) (0, 0)

/-! ## Accuracy -/

/-- The distance of neighbouring binary32 numbers at a value. -/
def ulp (r : Int) : Int := perUnit * 2 ^ (Nat.log2 (r.natAbs / perUnit) - 23)

/-- `n` ulps at a value, and what the value itself may be off. -/
def tolerance (n : Nat) (r : Int) : Int := n * ulp r + ulp r / 2 ^ 64

/-- `y` is the binary32 number nearest to `r`, or a finite one not further from `r` than `tol`. -/
def near (tol r : Int) (y : F32) : Bool :=
  y == toF32 r || (Fp.isFinite y && decide ((ofF32 y - r).natAbs ≤ tol.natAbs))

end Sys2Proof.Machine.Reference
end

