-- ==== Sys2Proof/Machine/Open.lean ====
section
/-!
DEFINITION. The OPEN parameters of 00_scope.md R6 with R6's constraints put on: each definition here is
an opaque constant of Config wherever that constant meets the constraints, and a value that meets them
elsewhere. So every value the constraints allow is possible, and only those (log 5, log 6, log 17, log 18, log 23).
Where a derived value makes an argument infinite or a NaN the result is free, but for a bound that R6 puts on every
argument (93_implementation_defined.md S5).
-/

namespace Sys2Proof.Machine.Open

open Sys2Proof

/-- The OPEN value where it meets the constraint, `dflt` (which meets it) where it does not. -/
def within (ok : F32 → Bool) (raw dflt : F32) : F32 := if ok raw then raw else dflt

/-- The OPEN value where it lies within `P_TRANS_ULP` ulps of the real value `r` and meets `ok`, `dflt` elsewhere. -/
def accurate (r : Int) (ok : F32 → Bool) (raw dflt : F32) : F32 :=
  within (fun y => Reference.near (Reference.tolerance Config.transUlp r) r y && ok y) raw dflt

/-! ## Transcendental functions -/

/-- The least positive number, `2^-149`. -/
def least : F32 := 0x00000001#32

/-- `EXP`: accurate and positive at finite arguments, `EXP(0) = 1` (R6), also at `-0.0` (D61, R116). -/
def exp (x : F32) : F32 :=
  if Fp.isZero x then Fp.one
  else if Fp.isFinite x then
    let r := Reference.exp (Reference.ofF32 x)
    accurate r (fun y => Fp.gt y Fp.zero) (Config.expRaw x) (Fp.max (Reference.toF32 r) least)
  else Config.expRaw x

/-- `LOG10`: accurate at positive finite arguments, `LOG10(1) = 0` (R6); never a NaN (93 S9, R155; log 5). -/
def log10 (x : F32) : F32 :=
  if x = Fp.one then Fp.zero
  else if Fp.isFinite x && Fp.gt x Fp.zero then
    let r := Reference.log10 (Reference.ofF32 x)
    accurate r (fun _ => true) (Config.log10Raw x) (Reference.toF32 r)
  else within (fun y => !Fp.isNaN y) (Config.log10Raw x) Fp.zero

/-- `POW10`: accurate at finite arguments, `POW10(0) = 1` (R6). -/
def pow10 (x : F32) : F32 :=
  if x = Fp.zero then Fp.one
  else if Fp.isFinite x then
    let r := Reference.pow10 (Reference.ofF32 x)
    accurate r (fun _ => true) (Config.pow10Raw x) (Reference.toF32 r)
  else Config.pow10Raw x

/-- A magnitude of at most 1. -/
def atMostOne (y : F32) : Bool := Fp.le (Fp.abs y) Fp.one

/-- `SIN`: accurate and at most 1 in magnitude at finite arguments, `SIN(0) = 0` (R6). -/
def sin (x : F32) : F32 :=
  if x = Fp.zero then Fp.zero
  else if Fp.isFinite x then
    let r := Reference.sin (Reference.ofF32 x)
    accurate r atMostOne (Config.sinRaw x) (Reference.toF32 r)
  else Config.sinRaw x

/-- `COS`: accurate and at most 1 in magnitude at finite arguments, `COS(0) = 1` (R6). -/
def cos (x : F32) : F32 :=
  if x = Fp.zero then Fp.one
  else if Fp.isFinite x then
    let r := Reference.cos (Reference.ofF32 x)
    accurate r atMostOne (Config.cosRaw x) (Reference.toF32 r)
  else Config.cosRaw x

/-- `TANH` at an argument without its sign: accurate where it is finite, at most 1 in magnitude everywhere,
`TANH(0) = 0` (R6). -/
def tanhPos (x : F32) : F32 :=
  if x = Fp.zero then Fp.zero
  else if Fp.isFinite x then
    let r := Reference.tanh (Reference.ofF32 x)
    accurate r atMostOne (Config.tanhRaw x) (Reference.toF32 r)
  else within atMostOne (Config.tanhRaw x) Fp.one

/-- `TANH`: odd (R6). -/
def tanh (x : F32) : F32 :=
  if Fp.signBit x && !Fp.isNaN x then Fp.neg (tanhPos (Fp.abs x)) else tanhPos x

/-! ## The transform -/

/-- `P_DFT_TOL`, not negative (R6). -/
def dftTol : Rat := if 0 ≤ Config.dftTolRaw then Config.dftTolRaw else 0

/-- `P_DFT_TOL` in the reference's unit, with a quarter of `2^-149` for the error of the reference sum. -/
def dftTolerance : Int := (dftTol * Reference.one).floor + Reference.perUnit / 4

/-- The OPEN value where it lies within `P_DFT_TOL` of the exact one, the nearest number elsewhere (R6). -/
def dftPart (r : Int) (raw : F32) : F32 := within (Reference.near dftTolerance r) raw (Reference.toF32 r)

/-- `DFT2048`, bin `k`: each part within `P_DFT_TOL` of the exact transform of R134, and all zeros for an all-zero
input (R6; log 23). -/
def dft2048 (z : List F32) (k : Nat) : F32 × F32 :=
  if z.all Fp.isZero then (Fp.zero, Fp.zero)
  else if z.all Fp.isFinite then
    let r := Reference.dft z k
    (dftPart r.1 (Config.dftRaw z k).1, dftPart r.2 (Config.dftRaw z k).2)
  else Config.dftRaw z k

/-! ## Networks: linear filters and polynomials (log 17) -/

/-- What a network computes, one binary32 operation at a time (R9). -/
def netEval (word : Nat → F32) : Config.Net → F32
  | .word j => word j
  | .const c => c
  | .add a b => Fp.add (netEval word a) (netEval word b)
  | .sub a b => Fp.sub (netEval word a) (netEval word b)
  | .mul a b => Fp.mul (netEval word a) (netEval word b)

/-- The degree of a network as a polynomial in its words; `none` where a constant is not finite. -/
def netDegree : Config.Net → Option Nat
  | .word _ => some 1
  | .const c => if Fp.isFinite c then some 0 else none
  | .add a b | .sub a b => (netDegree a).bind (fun m => (netDegree b).map (fun n => if m < n then n else m))
  | .mul a b => (netDegree a).bind (fun m => (netDegree b).map (fun n => m + n))

/-- A finite constant. -/
def netFactor : Config.Net → Bool
  | .const c => Fp.isFinite c
  | _ => false

/-- Linear: sums and differences of words with finite constant factors. -/
def netLinear : Config.Net → Bool
  | .word _ => true
  | .const _ => false
  | .add a b | .sub a b => netLinear a && netLinear b
  | .mul a b => (netFactor a && netLinear b) || (netLinear a && netFactor b)

/-- The OPEN network where it is linear, `dflt` elsewhere. -/
def linear (raw dflt : Config.Net) : Config.Net := if netLinear raw then raw else dflt

/-- The words an oversampling filter computes from: its inputs, then its state, words beyond the state being zero
(log 6). -/
def osWord (inputs : List F32) (s : OsState) (j : Nat) : F32 := (inputs ++ s).getD j Fp.zero

/-- The zero state of an oversampling filter (R6, R33). -/
def osZero : OsState := []

/-- Every word of a filter's state is zero. -/
def osIsZero (s : OsState) : Bool := s.all Fp.isZero

/-- The default outputs of D50: `P_OS_UP` holds the sample, `P_OS_DOWN` takes the mean of the four. -/
def osUpDflt : Config.Net := .word 0

/-- `((w0 + w1) + (w2 + w3)) * 0.25` (R106). -/
def osDownDflt : Config.Net :=
  .mul (.add (.add (.word 0) (.word 1)) (.add (.word 2) (.word 3))) (.const 0x3E800000#32)

/-- `P_OS_UP`: linear and time-invariant; zero input from the zero state gives zero output and the zero state
(R6, R106). -/
def osUp (s : OsState) (x : F32) : OsState × List F32 :=
  if osIsZero s = true ∧ x = Fp.zero then (osZero, List.replicate Config.osFactor Fp.zero)
  else
    (Config.osUpStateRaw.map (fun e => netEval (osWord [x] s) (linear e (.word 0))),
      (List.range Config.osFactor).map (fun k => netEval (osWord [x] s) (linear (Config.osUpRaw k) osUpDflt)))

/-- `P_OS_DOWN`, of `OS_FACTOR` samples: as `P_OS_UP` (R6, R106). -/
def osDown (s : OsState) (w : List F32) : OsState × F32 :=
  if osIsZero s = true ∧ w.all (· == Fp.zero) = true then (osZero, Fp.zero)
  else
    (Config.osDownStateRaw.map (fun e => netEval (osWord w s) (linear e (.word 0))),
      netEval (osWord w s) (linear Config.osDownRaw osDownDflt))

/-! ## Waveshaper -/

/-- The three stages, each input clipped below `TUBE_CUTOFF`, then the transformer (R108); zero goes to zero
(R6, D61). -/
def tubeComposite (stage : Nat → F32 → F32) (xfmr : F32 → F32) (v : F32) : F32 :=
  if Fp.isZero v then Fp.zero
  else xfmr ((List.range Config.tubeStages).foldl (fun u j => stage (j + 1) (Fp.max u Config.tubeCutoff)) v)

/-- One period of a sine of amplitude 0.5. -/
def halfSine : List F32 := (List.range Config.spaLen).map (fun n => Reference.toF32 (Reference.sinTable.getD n 0 / 2))

/-- A transfer, within the limit of Tube, gives a sine of amplitude 0.5 a second harmonic (R6, 95 T8) above the error
of the reference sum; no odd function does (log 5). -/
def asymmetric (f : F32 → F32) : Bool :=
  let r := Reference.dft (halfSine.map (fun v => Fp.clamp (f v) (Fp.neg Config.tubeLim) Config.tubeLim)) 2
  decide (Reference.perUnit / 4 < r.1.natAbs ∨ Reference.perUnit / 4 < r.2.natAbs)

/-- Whether the OPEN stages and transformer meet R6's constraint. -/
def tubeOk : Bool := asymmetric (tubeComposite Config.tubeStageRaw Config.tubeXfmrRaw)

/-- `P_TUBE_STAGE[j]` (R6, R108). -/
def tubeStage (j : Nat) (v : F32) : F32 := if tubeOk then Config.tubeStageRaw j v else v

/-- `P_TUBE_XFMR` (R6, R108); where the OPEN one does not meet R6's constraint, `v + v * v / 8`. -/
def tubeXfmr (v : F32) : F32 :=
  if tubeOk then Config.tubeXfmrRaw v else Fp.add v (Fp.mul (Fp.mul v v) 0x3E000000#32)

/-- The stages and the transformer of Tube on the driven sample (R108). -/
def tubePath (v : F32) : F32 := tubeComposite tubeStage tubeXfmr v

/-- `P_TUBE_HYST`, a finite number (D61). -/
def tubeHyst : F32 := within Fp.isFinite Config.tubeHystRaw Fp.zero

/-- `P_TAPE_BIAS_AMP`, in `[0, 0.3]` (R6). -/
def tapeBiasAmp : F32 :=
  within (fun y => Fp.le Fp.zero y && Fp.le y Config.tapeCoerc) Config.tapeBiasAmpRaw Fp.zero

/-- `P_TAPE_BIAS_INC`, in `[0, 2*pi)` (R6). -/
def tapeBiasInc : F32 :=
  within (fun y => Fp.le Fp.zero y && Fp.lt y Fp.twoPi) Config.tapeBiasIncRaw Fp.zero

/-- `P_TAPE_SAT`, `|P_TAPE_SAT(u)| <= 0.8` for every `u` (R6). -/
def tapeSat (u : F32) : F32 :=
  within (fun y => Fp.le (Fp.abs y) Config.tapeSatLvl) (Config.tapeSatRaw u) Fp.zero

/-- A polynomial of degree 3 that takes zero to zero. -/
def netCubic (e : Config.Net) : Bool := netDegree e == some 3 && Fp.isZero (netEval (fun _ => Fp.zero) e)

/-- The polynomial of `P_XS_LOW`; `v * v * v` where the OPEN network is no such cubic (R6; log 17). -/
def xsCubic : Config.Net :=
  if netCubic Config.xsLowRaw then Config.xsLowRaw else .mul (.mul (.word 0) (.word 0)) (.word 0)

/-- `P_XS_LOW`, a cubic polynomial with `P_XS_LOW(0) = 0` (R6). -/
def xsLow (v : F32) : F32 := if Fp.isZero v then Fp.zero else netEval (fun _ => v) xsCubic

/-- `P_XS_HIGH` (R6: no constraint). -/
def xsHigh (v : F32) : F32 := Config.xsHighRaw v

/-- A positive finite constant of R6. -/
def positive (raw : F32) : F32 := within (fun y => Fp.isFinite y && Fp.gt y Fp.zero) raw Fp.one

/-- `P_DIODE_IS`, positive (R6). -/
def diodeIs : F32 := positive Config.diodeIsRaw

/-- `P_DIODE_K`, positive (R6). -/
def diodeK : F32 := positive Config.diodeKRaw

/-- `P_FUZZ_VT`, positive for every argument (R6). -/
def fuzzVt (d : F32) : F32 := within (fun y => Fp.gt y Fp.zero) (Config.fuzzVtRaw d) Fp.one

/-- `P_FUZZ_S1`, `P_FUZZ_S1(0, vt, 0) = 0` (R6). -/
def fuzzS1 (v vt m : F32) : F32 :=
  if Fp.isZero v && Fp.isZero m then Fp.zero else Config.fuzzS1Raw v vt m

/-- `P_FUZZ_S2`, `P_FUZZ_S2(0, 0) = 0` (R6). -/
def fuzzS2 (a m : F32) : F32 :=
  if Fp.isZero a && Fp.isZero m then Fp.zero else Config.fuzzS2Raw a m

/-- Whether `P_TAU_RMS` and `P_TAU_PEAK` are positive, finite and in R6's order. -/
def tausOk : Bool :=
  Fp.isFinite Config.tauPeakRaw && Fp.gt Config.tauRmsRaw Fp.zero && Fp.gt Config.tauPeakRaw Config.tauRmsRaw

/-- `P_TAU_RMS`, positive (R6). -/
def tauRms : F32 := if tausOk then Config.tauRmsRaw else Fp.one

/-- `P_TAU_PEAK`, greater than `P_TAU_RMS` (R6). -/
def tauPeak : F32 := if tausOk then Config.tauPeakRaw else Fp.two

/-! ## Equaliser and loudness -/

/-- `TC(curve)[b]`: Flat is all zeros, the other curves finite (R6, R41, R127). -/
def targetCurve (curve b : Nat) : F32 :=
  if curve = 0 then Fp.zero else within Fp.isFinite (Config.tcRaw curve b) Fp.zero

/-- `P_LOUDNESS`: not negative, and 0 on all zeros (R6); free where an argument is a NaN (93 S5). -/
def loudness (rmsK rms pk : F32) : F32 :=
  if Fp.isNaN rmsK || Fp.isNaN rms || Fp.isNaN pk then Config.loudnessRaw rmsK rms pk
  else if Fp.isZero rmsK && Fp.isZero rms && Fp.isZero pk then Fp.zero
  else within (fun y => Fp.le Fp.zero y) (Config.loudnessRaw rmsK rms pk) Fp.zero

/-- `P_TAU_ATT`, positive (R6). -/
def tauAtt : F32 := positive Config.tauAttRaw

/-- `P_TAU_REL`, positive (R6). -/
def tauRel : F32 := positive Config.tauRelRaw

end Sys2Proof.Machine.Open
end

