-- ==== Sys2Proof/Machine/State.lean ====
section
/-!
DEFINITION. The state of the block: every register, RAM and internal cell of 10_state.md, the sequencer's
state (R38), and the fields the model adds (read data, the count of free values drawn, the host's pending
actions). Its value after the hardware reset is `State.reset` (70_reset_and_hazards.md R187).
-/

namespace Sys2Proof.Machine

/-- Why the machine stops. No behaviour of the block is a fault (93_implementation_defined.md section 3). -/
inductive Fault where
  /-- A block command would touch a sample address outside the map (channel not below `C_MAX`, or length above
  `N_MAX`; R43, R49). Raised by the block commands' meanings and by the sequencer. The checks of R74 keep every
  state a run reaches from it. Safe: the model stops. -/
  | unmappedSample
deriving DecidableEq, Repr

/-- Why an instruction has no meaning here. -/
inductive Refusal where
  /-- An instruction without a meaning in the model; raised by no arm. Safe: the model stops. -/
  | notModelled (mnemonic : String)
deriving DecidableEq, Repr

/-- The error codes of R170. -/
inductive ErrKind where
  | none | badCmd | notPrepared | badConfig | badCount | busyCmd | busyRam | badAccess | badAddr
deriving DecidableEq, Repr

/-- A biquad coefficient set `K` (R17). -/
structure Biquad where
  b0 : F32
  b1 : F32
  b2 : F32
  a1 : F32
  a2 : F32
deriving DecidableEq, Repr

/-- The identity set `KID` (R18). -/
def Biquad.kid : Biquad := ⟨0x3F800000#32, 0, 0, 0, 0⟩

/-- A biquad's state `(s1, s2)` (R17). -/
structure BqState where
  s1 : F32
  s2 : F32
deriving DecidableEq, Repr

/-- A biquad state of zeros. -/
def BqState.zero : BqState := ⟨0, 0⟩

/-- The configuration triple, as `CFG_*` and as `PREP_*` (R30). -/
structure Cfg where
  fs : F32
  maxblock : Word
  channels : Word
deriving DecidableEq, Repr

/-- The configuration after reset (R30). -/
def Cfg.reset : Cfg := ⟨0, 0, 0⟩

/-- The 13 parameter registers (R31). -/
structure Params where
  inGainDb : F32
  outGainDb : F32
  driveDb : F32
  mixPct : F32
  algorithm : Word
  solo : Word
  lowcutHz : F32
  highcutHz : F32
  filterEn : Word
  eqEn : Word
  eqCurve : Word
  eqStrengthPct : F32
  eqReactionMs : F32
deriving DecidableEq, Repr

/-- The parameter registers after reset (R31). -/
def Params.reset : Params :=
  { inGainDb := 0, outGainDb := 0, driveDb := 0, mixPct := 0, algorithm := 0, solo := 0
    lowcutHz := 0x41A00000#32, highcutHz := 0x469C4000#32, filterEn := 0, eqEn := 0, eqCurve := 0
    eqStrengthPct := 0, eqReactionMs := 0x42C80000#32 }

/-- The snapshot `L` a command takes at acceptance (R38, R74). -/
structure Snapshot where
  par : Params
  arg : Word
deriving DecidableEq, Repr

/-- The command that runs (R38): the accepted word `cur`, the snapshot `L`, the configuration words it found
(R54; log 8), and whether its rule has been performed and only completion is left (log 7). -/
structure Running where
  cur : Word
  snap : Snapshot
  cfg : Cfg
  worked : Bool
deriving DecidableEq, Repr

/-- The waveshaper's cells of one channel slot (R33). -/
structure WsChan where
  tubeH : F32
  tapePhi : F32
  tapeM : F32
  tapePrev : F32
  xsFb : F32
  fuzzDrift : F32
  fuzzM1 : F32
  fuzzM2 : F32
  osUp : OsState
  osDown : OsState
  inMs : F32
  inPk : F32
  outMs : F32
  outPk : F32
deriving DecidableEq, Repr

/-- A channel slot's waveshaper cells after reset (R33, R103). -/
def WsChan.zero : WsChan :=
  { tubeH := 0, tapePhi := 0, tapeM := 0, tapePrev := 0, xsFb := 0, fuzzDrift := 0, fuzzM1 := 0
    fuzzM2 := 0, osUp := Open.osZero, osDown := Open.osZero, inMs := 0, inPk := 0, outMs := 0, outPk := 0 }

/-- Waveshaper state (R33). -/
structure WsState where
  chan : Vector WsChan Config.cMax
  aRms : F32
  aPk : F32
deriving DecidableEq, Repr

/-- Waveshaper state after reset (R187). -/
def WsState.reset : WsState := ⟨Vector.replicate Config.cMax WsChan.zero, 0, 0⟩

/-- One band of the equaliser (R34). -/
structure EqBand where
  gain : F32
  target : F32
  sgain : F32
  sspec : F32
  coef : Biquad
  bin : BitVec 11
deriving DecidableEq, Repr

/-- A band after reset (R34). -/
def EqBand.reset : EqBand := ⟨0, 0, 0, 0, Biquad.kid, 0⟩

/-- Peaking-EQ state (R34): the bands, and `eq_st[c][b]`. -/
structure PeqState where
  band : Vector EqBand Config.numBands
  st : Vector (Vector BqState Config.numBands) Config.cMax
deriving DecidableEq, Repr

/-- The band filters' states of zeros. -/
def PeqState.zeroSt : Vector (Vector BqState Config.numBands) Config.cMax :=
  Vector.replicate Config.cMax (Vector.replicate Config.numBands BqState.zero)

/-- Peaking-EQ state after reset (R187). -/
def PeqState.reset : PeqState := ⟨Vector.replicate Config.numBands EqBand.reset, PeqState.zeroSt⟩

/-- Analyser state (R35) with its two derived tables (R40). -/
structure SpaState where
  buf : Vector F32 Config.spaLen
  wpos : BitVec 11
  spec : Vector F32 Config.spaBins
  count : Word
  win : Vector F32 Config.spaLen
  binfreq : Vector F32 Config.spaBins
deriving DecidableEq, Repr

/-- Analyser state after reset (R187). -/
def SpaState.reset : SpaState :=
  { buf := Vector.replicate Config.spaLen 0, wpos := 0, spec := Vector.replicate Config.spaBins 0, count := 0
    win := Vector.replicate Config.spaLen 0, binfreq := Vector.replicate Config.spaBins 0 }

/-- One FIR instance (R36): both filters' coefficients, realised cutoffs, and delay lines by channel. -/
structure FirInst where
  hLc : Vector F32 Config.firTaps
  hHc : Vector F32 Config.firTaps
  frLc : F32
  frHc : F32
  dlLc : Vector (Vector F32 Config.firDelay) Config.cMax
  dlHc : Vector (Vector F32 Config.firDelay) Config.cMax
deriving DecidableEq, Repr

/-- Delay lines of zeros. -/
def FirInst.zeroDl : Vector (Vector F32 Config.firDelay) Config.cMax :=
  Vector.replicate Config.cMax (Vector.replicate Config.firDelay 0)

/-- A FIR instance after reset (R187). -/
def FirInst.reset : FirInst :=
  { hLc := Vector.replicate Config.firTaps 0, hHc := Vector.replicate Config.firTaps 0, frLc := 0, frHc := 0
    dlLc := FirInst.zeroDl, dlHc := FirInst.zeroDl }

/-- The K-weighting states of one channel (R37). -/
structure KwState where
  hp : BqState
  sh : BqState
deriving DecidableEq, Repr

/-- K-weighting states of zeros. -/
def KwState.zero : KwState := ⟨BqState.zero, BqState.zero⟩

/-- Loudness state (R37). -/
structure LmState where
  inLoud : F32
  outLoud : F32
  target : F32
  targetValid : Bool
  compDb : F32
  gs : F32
  kHp : Biquad
  kSh : Biquad
  aAtt : F32
  aRel : F32
  kwIn : Vector KwState Config.cMax
  kwOut : Vector KwState Config.cMax
deriving DecidableEq, Repr

/-- Loudness state after reset (R187). -/
def LmState.reset : LmState :=
  { inLoud := 0, outLoud := 0, target := 0, targetValid := false, compDb := 0, gs := 0x3F800000#32
    kHp := Biquad.kid, kSh := Biquad.kid, aAtt := 0, aRel := 0
    kwIn := Vector.replicate Config.cMax KwState.zero, kwOut := Vector.replicate Config.cMax KwState.zero }

/-- Sample RAM: the bytes written since reset number `epoch`, addresses strictly rising. A byte not listed
holds a free value (R39; log 1). -/
structure Memory where
  epoch : Nat
  cells : List Host.Cell
deriving DecidableEq, Repr

/-- What reaches the machine from outside, in the order it happens (R52, R187; log 9). -/
inductive Event where
  /-- A bus transaction, or a command carried to its completion. -/
  | access (a : Access)
  /-- The sequencer takes its next stage before the host's next action (log 7). -/
  | sequencer
  /-- The reset input is asserted and released (R187). -/
  | hardReset
deriving DecidableEq, Repr

/-- The machine. -/
structure State where
  /-- `STATUS.DONE` (R23). -/
  done : Bool
  /-- `STATUS.ERR`. -/
  err : Bool
  /-- `STATUS.NONFINITE`. -/
  nonfinite : Bool
  /-- `STATUS.PNAN`. -/
  pnan : Bool
  /-- `STATUS.SPEC_NEW`. -/
  specNew : Bool
  /-- `STATUS.PREPARED`. -/
  prepared : Bool
  /-- `ERR_CODE.CODE` (R24). -/
  errCode : ErrKind
  /-- `ERR_CODE.OVF`. -/
  errOvf : Bool
  /-- `ERR_INFO` (R25). -/
  errInfo : Word
  /-- `IRQ_EN` (R28). -/
  irqEn : Word
  /-- `ARG` (R29). -/
  arg : Word
  /-- `RESULT` (R29). -/
  result : F32
  /-- `CFG_FS`, `CFG_MAXBLOCK`, `CFG_CHANNELS` (R30). -/
  cfg : Cfg
  /-- `PREP_FS`, `PREP_MAXBLOCK`, `PREP_CHANNELS` (R30). -/
  prep : Cfg
  /-- The parameter registers (R31). -/
  par : Params
  /-- Waveshaper (R33). -/
  ws : WsState
  /-- Peaking EQ (R34). -/
  peq : PeqState
  /-- Analyser, with spectrum RAM and bin-frequency RAM (R35, R39). -/
  spa : SpaState
  /-- FIR pair, instance 0 pre and 1 post (R36). -/
  fir : Vector FirInst 2
  /-- Loudness (R37). -/
  lm : LmState
  /-- The running command; there is one exactly while `STATUS.BUSY = 1` (R38). -/
  run : Option Running
  /-- `NONF`: the running command has read a non-finite sample (R74, R172). -/
  nonf : Bool
  /-- Sample RAM (R39, R43). -/
  mem : Memory
  /-- The word the last bus read returned (the model's own; log 11). -/
  rdata : Word
  /-- How many free values have been drawn (the model's own; log 22). -/
  draws : Nat
  /-- The host's actions still to come (the model's own; log 9). -/
  inbox : List Event
deriving DecidableEq, Repr

/-- The machine right after the hardware reset (R187). -/
def State.reset : State :=
  { done := false, err := false, nonfinite := false, pnan := false, specNew := false, prepared := false
    errCode := .none, errOvf := false, errInfo := 0, irqEn := 0, arg := 0, result := 0
    cfg := Cfg.reset, prep := Cfg.reset, par := Params.reset, ws := WsState.reset, peq := PeqState.reset
    spa := SpaState.reset, fir := Vector.replicate 2 FirInst.reset, lm := LmState.reset
    run := none, nonf := false, mem := ⟨0, []⟩, rdata := 0, draws := 0, inbox := [] }

end Sys2Proof.Machine
end

