-- ==== Sys2Proof/Machine/Ops.lean ====
section
/-!
DEFINITION. The shared operations: sample RAM as bytes (20_memory.md R42 to R49), fixed-size tables, recording
and clearing an error (60_exceptions.md R171, R177: this hardware's only exception), and the issue, acceptance
and completion of a command (40_system.md R74, R75).
-/

namespace Sys2Proof.Machine

/-- The outcome of a step or of an instruction. -/
abbrev Result := Host.Outcome State Fault Refusal

/-- What follows a next state. -/
def andThen (r : Result) (f : State → Result) : Result :=
  match r with
  | .next s => f s
  | .fault e => .fault e
  | .refused e => .refused e

/-! ## Tables -/

/-- Entry `i` of a table, `d` past its end. -/
def vget {α : Type} {n : Nat} (v : Vector α n) (i : Nat) (d : α) : α := v[i]?.getD d

/-- A table with entry `i` replaced. -/
def vset {α : Type} {n : Nat} (v : Vector α n) (i : Nat) (x : α) : Vector α n := v.setIfInBounds i x

/-- The table of `f 0 .. f (n-1)`. -/
def tab {α : Type} (n : Nat) (f : Nat → α) : Vector α n := ⟨((List.range n).map f).toArray, by simp⟩

/-- `f` at every entry. -/
def vmap {α β : Type} {n : Nat} (f : α → β) (v : Vector α n) : Vector β n :=
  ⟨(v.toList.map f).toArray, by simp⟩

/-- A delay line after one more sample: the new one first, the oldest dropped (R146). -/
def shiftIn {α : Type} {n : Nat} (x : α) (v : Vector α n) : Vector α n :=
  ⟨((x :: v.toList).take n).toArray, by simp⟩

/-- A list processed in order by a step that carries a state. -/
def mapAccum {σ α β : Type} (f : σ → α → σ × β) : σ → List α → σ × List β
  | s, [] => (s, [])
  | s, x :: xs =>
    ((mapAccum f (f s x).1 xs).1, (f s x).2 :: (mapAccum f (f s x).1 xs).2)

/-- `f 0`, `f 1`, … `f (n-1)` in order. -/
def each {σ : Type} (n : Nat) (f : Nat → σ → σ) (s : σ) : σ := (List.range n).foldl (fun t i => f i t) s

/-! ## Sample RAM -/

/-- The byte listed at an address. -/
def Memory.lookup (a : Nat) : List Host.Cell → Option Byte
  | [] => none
  | (b, x) :: rest => if a = b then some x else if a < b then none else Memory.lookup a rest

/-- The list with one byte stored, addresses still rising. -/
def Memory.insert (a : Nat) (x : Byte) : List Host.Cell → List Host.Cell
  | [] => [(a, x)]
  | (b, y) :: rest =>
    if a < b then (a, x) :: (b, y) :: rest
    else if a = b then (a, x) :: rest
    else (b, y) :: Memory.insert a x rest

/-- One byte of sample RAM: the byte written there, or the unspecified reset content (R39; log 1). -/
def Memory.read (m : Memory) (a : Nat) : Byte := (Memory.lookup a m.cells).getD (Config.freeRam m.epoch a)

/-- One byte stored. -/
def Memory.write (m : Memory) (a : Nat) (x : Byte) : Memory := { m with cells := Memory.insert a x m.cells }

/-- Byte `j` of a word, bits `[8j+7 : 8j]` (R44). -/
def byteOf (w : Word) (j : Nat) : Byte := w.extractLsb' (8 * j) 8

/-- `MemRead(addr, 4)`: little-endian (R14, R44). -/
def Memory.readWord (m : Memory) (a : Nat) : Word :=
  m.read (a + 3) ++ m.read (a + 2) ++ m.read (a + 1) ++ m.read a

/-- `MemWrite(addr, 4, w)` (R14, R44). -/
def Memory.writeWord (m : Memory) (a : Nat) (w : Word) : Memory :=
  (((m.write a (byteOf w 0)).write (a + 1) (byteOf w 1)).write (a + 2) (byteOf w 2)).write (a + 3) (byteOf w 3)

/-- The canonical form: addresses strictly rising. -/
abbrev Memory.wf (m : Memory) : Prop := m.cells.Pairwise (fun x y => x.1 < y.1)

/-- The end of mapped sample RAM (R43). -/
def ramEnd : Nat := 0x10000 + 0x4000 * Config.cMax

/-- Only mapped sample addresses are listed (R43). -/
abbrev Memory.mapped (m : Memory) : Prop := ∀ x ∈ m.cells, 0x10000 ≤ x.1 ∧ x.1 < ramEnd

/-! ## Errors (R171, R177) -/

/-- `LATCH_ERROR(code, info)`: the first error is kept, a later one sets `OVF` (R171). -/
def raise (k : ErrKind) (info : Word) (s : State) : State :=
  if s.err then { s with errOvf := true }
  else { s with err := true, errCode := k, errOvf := false, errInfo := info }

/-- `ERR`, `ERR_CODE` and `ERR_INFO` cleared together (R177). -/
def clearError (s : State) : State :=
  { s with err := false, errCode := .none, errOvf := false, errInfo := 0 }

/-- The word a read returns (log 11). -/
def give (w : Word) (s : State) : State := { s with rdata := w }

/-- A bus access refused: a read returns 0, a write changes nothing, the byte address is recorded (R170). -/
def refuse (write : Bool) (k : ErrKind) (addr : Word) (s : State) : State :=
  raise k addr (if write then s else give 0 s)

/-- `STATUS.BUSY` (R38). -/
def busy (s : State) : Bool := s.run.isSome

/-- What the block does with an access that is no instruction (R45, R46, R68, R174). -/
def rejectAccess (r : Reject) (a : Access) (s : State) : State :=
  match a with
  | .command w => raise (if busy s then .busyCmd else .badCmd) w s
  | .bus t => refuse t.write (match r with | .badAddr => .badAddr | _ => .badAccess) (t.addr.setWidth 32) s

/-! ## Issue and completion of a command (R74, R75) -/

/-- `CFG_OK()` (R74). -/
def cfgOk (c : Cfg) : Bool :=
  Fp.isFinite c.fs && Fp.gt c.fs Fp.zero &&
    decide (1 ≤ c.maxblock.toNat) && decide (c.maxblock.toNat ≤ Config.nMax) &&
    decide (1 ≤ c.channels.toNat) && decide (c.channels.toNat ≤ Config.cMax)

/-- PREPARE's check (R74). -/
def checkConfig (s : State) : Option ErrKind := if cfgOk s.cfg then none else some .badConfig

/-- The check of a command that needs a prepared block (R74). -/
def checkPrepared (s : State) : Option ErrKind := if s.prepared then none else some .notPrepared

/-- The checks of a block command, in the order of R174. -/
def checkBlock (ns : Nat) (s : State) : Option ErrKind :=
  if s.prepared then
    (if 1 ≤ ns ∧ ns ≤ s.prep.maxblock.toNat then none else some .badCount)
  else some .notPrepared

/-- The sequencer's record of a command just accepted (R74; log 8). -/
def running (w : Word) (s : State) : Running := ⟨w, ⟨s.par, s.arg⟩, s.cfg, false⟩

/-- Acceptance: one indivisible step (R74). -/
def accept (w : Word) (s : State) : State :=
  { s with run := some (running w s), done := false, nonf := false }

/-- `COMPLETE()` (R75). -/
def complete (s : State) : State :=
  { s with nonfinite := s.nonfinite || s.nonf, run := none, done := true }

/-- A command's rule, performed on the state after acceptance. -/
abbrev Body := Running → State → Result

/-- A command written to CMD and carried to completion: the checks of R74 (`err` is the outcome of those
after `BAD_CMD`), acceptance, the command's rule, completion. -/
def issue (w : Word) (err : Option ErrKind) (body : Body) (s : State) : Result :=
  if busy s then .next (raise .busyCmd w s)
  else
    match err with
    | some k => .next (raise k w s)
    | none => andThen (body (running w s) (accept w s)) (fun t => .next (complete t))

/-- A block command's rule needs its sample addresses mapped; the checks of R74 see to it (log 14). -/
def onSamples (ns : Nat) (s t : State) : Result :=
  if s.prep.channels.toNat ≤ Config.cMax ∧ ns ≤ Config.nMax then .next t else .fault .unmappedSample

/-- The next free value of a monitor register (R168; log 4, log 22). -/
def giveFree (s : State) : State :=
  { s with rdata := Config.freeMonitor s.draws, draws := s.draws + 1 }

/-- After a command's rule: where it read a non-finite sample, what it wrote is free (R172; log 2). `s` is the
state before the rule, `t` after it. -/
def settle (free : Nat → State → State → State) (s t : State) : State :=
  if t.nonf then { free s.draws s t with draws := s.draws + 1 } else t

/-- The hardware reset: every cell at its reset value, sample RAM unspecified anew (R187; log 1, log 13). -/
def hardReset (s : State) : State :=
  { State.reset with mem := ⟨s.mem.epoch + 1, []⟩, draws := s.draws, inbox := s.inbox }

end Sys2Proof.Machine
end

