-- ==== Sys2Proof/Machine/Operands.lean ====
section
/-!
DEFINITION. The operand forms: the samples of a block (00_scope.md R14, 20_memory.md R49), the three kinds of
parameter write (41_params.md R85 to R87, R94), the biquad step and coefficient forms (R17), and the decibel
conversion (R12).
-/

namespace Sys2Proof.Machine

/-! ## The samples of a block -/

/-- `S[c][i]` (R14). -/
def sampleAt (s : State) (c i : Nat) : F32 := s.mem.readWord (saddr c i)

/-- `S[c][0] .. S[c][ns-1]`. -/
def readBlock (s : State) (c ns : Nat) : List F32 := (List.range ns).map (sampleAt s c)

/-- Words stored from an address on. -/
def Memory.writeWords (m : Memory) (a : Nat) : List Word → Memory
  | [] => m
  | w :: ws => Memory.writeWords (m.writeWord a w) (a + 4) ws

/-- `S[c][0] <- y0`, `S[c][1] <- y1`, … -/
def writeBlock (c : Nat) (ys : List F32) (s : State) : State :=
  { s with mem := s.mem.writeWords (saddr c 0) ys }

/-- Samples a command has read: a NaN or an infinity sets `NONF` (R172). -/
def note (xs : List F32) (s : State) : State :=
  { s with nonf := s.nonf || xs.any (fun x => !Fp.isFinite x) }

/-- `C`, the prepared channel count (R30). -/
def chans (s : State) : Nat := s.prep.channels.toNat

/-! ## Parameter writes -/

/-- `WRITE_F` (R85): a NaN is dropped and noted, any other value is clamped. -/
def writeFloat (set : F32 → Params → Params) (lo hi : F32) (w : Word) (s : State) : State :=
  if Fp.isNaN w then { s with pnan := true } else { s with par := set (Fp.clamp w lo hi) s.par }

/-- The write of a cutoff register: a NaN is dropped and noted, any other value is stored as written (R94, R95). -/
def writeCutoff (set : F32 → Params → Params) (w : Word) (s : State) : State :=
  if Fp.isNaN w then { s with pnan := true } else { s with par := set w s.par }

/-- `w` read as `i32` and clamped to `0..hi` (R86, R11). -/
def clampInt (hi : Nat) (w : Word) : Word :=
  BitVec.ofInt 32 (if (hi : Int) < (if (0 : Int) > w.toInt then 0 else w.toInt) then (hi : Int)
    else (if (0 : Int) > w.toInt then 0 else w.toInt))

/-- `WRITE_I` with the range `0..hi` (R86). -/
def writeInt (set : Word → Params → Params) (hi : Nat) (w : Word) (s : State) : State :=
  { s with par := set (clampInt hi w) s.par }

/-- `WRITE_B` (R87). -/
def writeBool (set : Word → Params → Params) (w : Word) (s : State) : State :=
  { s with par := set (w &&& 1#32) s.par }

/-! ## Filters and conversions -/

/-- One biquad step, transposed direct form II: the output and the new state (R17). -/
def bq (k : Biquad) (st : BqState) (x : F32) : F32 × BqState :=
  let y := Fp.add (Fp.mul k.b0 x) st.s1
  (y, ⟨Fp.add (Fp.sub (Fp.mul k.b1 x) (Fp.mul k.a1 y)) st.s2, Fp.sub (Fp.mul k.b2 x) (Fp.mul k.a2 y)⟩)

/-- `norm` (R17). -/
def norm (b0 b1 b2 a0 a1 a2 : F32) : Biquad :=
  ⟨Fp.div b0 a0, Fp.div b1 a0, Fp.div b2 a0, Fp.div a1 a0, Fp.div a2 a0⟩

/-- `db2lin(d) = POW10(d / 20)` (R12). -/
def db2lin (d : F32) : F32 := Open.pow10 (Fp.div d Fp.twenty)

/-- `db2lin40(d) = POW10(d / 40)` (R12). -/
def db2lin40 (d : F32) : F32 := Open.pow10 (Fp.div d Fp.forty)

/-- `lin2db(r) = 20 * LOG10(r)` (R12). -/
def lin2db (r : F32) : F32 := Fp.mul Fp.twenty (Open.log10 r)

/-- One-pole smoothing, `a * s + (1 - a) * x` (R19). -/
def smooth (a s x : F32) : F32 := Fp.add (Fp.mul a s) (Fp.mul (Fp.sub Fp.one a) x)

/-- `EXP(-1.0 / (tau * fs))`, a smoothing coefficient of a time constant (R102, R149). -/
def tauCoeff (tau fs : F32) : F32 := Open.exp (Fp.div Fp.negOne (Fp.mul tau fs))

end Sys2Proof.Machine
end

