-- ==== Sys2Proof/Machine/Analyser.lean ====
section
/-!
DEFINITION. The windowed FFT analyser (44_fft_analyzer.md): SPA_RESET, SPA_PRODUCE.
-/

namespace Sys2Proof.Machine

/-- One entry of the Hann window (R130). -/
def hann (n : Nat) : F32 :=
  Fp.mul Fp.half (Fp.sub Fp.one (Open.cos (Fp.div (Fp.mul Fp.twoPi (Fp.ofInt n)) (Fp.ofInt Config.hannDen))))

/-- The centre frequency of a bin (R130). -/
def binFreq (fs : F32) (k : Nat) : F32 := Fp.div (Fp.mul (Fp.ofInt k) fs) (Fp.ofInt Config.spaLen)

/-- `SPA_DERIVE()` (R130). -/
def spaDerive (s : State) : State :=
  { s with spa := { s.spa with win := tab Config.spaLen hann, binfreq := tab Config.spaBins (binFreq s.prep.fs) } }

/-- The analyser after `SPA_RESET_STATE()` (R131). -/
def spaClear (a : SpaState) : SpaState :=
  { a with
    buf := Vector.replicate Config.spaLen 0, wpos := 0, spec := Vector.replicate Config.spaBins 0, count := 0 }

/-- `SPA_RESET_STATE()` (R131). -/
def spaResetState (s : State) : State := { s with spa := spaClear s.spa }

/-- `MAG(X)` (R135). -/
def magnitude (x : F32 × F32) : F32 := Fp.sqrt (Fp.add (Fp.mul x.1 x.1) (Fp.mul x.2 x.2))

/-- The windowed buffer (R134). -/
def windowed (a : SpaState) : List F32 := List.zipWith Fp.mul a.win.toList a.buf.toList

/-- One word of the spectrum (R134). -/
def spectrumAt (z : List F32) (k : Nat) : F32 :=
  Fp.mul (Fp.div (magnitude (Open.dft2048 z k)) (Fp.ofInt Config.spaLen)) Fp.two

/-- `ANALYSE()` but for `SPEC_NEW` (R134). -/
def analyse (a : SpaState) : SpaState :=
  { a with spec := tab Config.spaBins (spectrumAt (windowed a)), count := a.count + 1 }

/-- One sample fed: stored, and an analysis where the write position wraps to 0 (R133). -/
def spaPush (a : SpaState) (x : F32) : SpaState :=
  let b := { a with buf := vset a.buf a.wpos.toNat x, wpos := a.wpos + 1 }
  if b.wpos = 0 then analyse b else b

/-- Sample `i` down-mixed to mono (R133). -/
def mono (s : State) (i : Nat) : F32 :=
  Fp.div ((List.range (chans s - 1)).foldl (fun acc c => Fp.add acc (sampleAt s (c + 1) i)) (sampleAt s 0 i))
    (Fp.ofInt (chans s))

/-- How many analyses the feeding of `ns` samples completes: the wraps of the write position (R133). -/
def wraps (a : SpaState) (ns : Nat) : Nat := (a.wpos.toNat + ns) / Config.spaLen

/-- The samples of all prepared channels are read (R14, R172). -/
def noteAll (ns : Nat) (s : State) : State := each (chans s) (fun c t => note (readBlock s c ns) t) s

/-- `SPA_FEED(NS)` (R133), with `SPEC_NEW` where it completes an analysis (R134). -/
def spaFeed (ns : Nat) (s : State) : State :=
  { noteAll ns s with
    spa := ((List.range ns).map (mono s)).foldl spaPush s.spa
    specNew := s.specNew || decide (0 < wraps s.spa ns) }

/-- Free values in what `SPA_FEED` updates: the buffer entries written, and the spectrum where an analysis was
completed (R172; log 2). `s` is the state before the command. -/
def freeSpa (ns d : Nat) (s t : State) : State :=
  { t with spa := { t.spa with
      buf := each ns (fun i b =>
        vset b ((s.spa.wpos.toNat + i) % Config.spaLen)
          (Config.freeCell d (.spaBuf ((s.spa.wpos.toNat + i) % Config.spaLen)))) t.spa.buf
      spec := if 0 < wraps s.spa ns then tab Config.spaBins (fun k => Config.freeCell d (.spaSpec k))
        else t.spa.spec } }

/-- SPA_RESET's rule (R131). -/
def bodySpaReset : Body := fun _ s => .next (spaResetState s)

/-- SPA_PRODUCE's rule (R132). -/
def bodySpaProduce (ns : Nat) : Body := fun _ s => onSamples ns s (settle (freeSpa ns) s (spaFeed ns s))

/-- `SPA_RESET` (R131). -/
def execSpaReset (s : State) : Result := issue (cmdWord 0x10 0 0) none bodySpaReset s

/-- `SPA_PRODUCE` (R132). -/
def execSpaProduce (ns : Nat) (s : State) : Result :=
  issue (cmdWord 0x11 0 ns) (checkBlock ns s) (bodySpaProduce ns) s

end Sys2Proof.Machine
end

