-- ==== Sys2Proof/Machine/Waveshaper.lean ====
section
/-!
DEFINITION. The nonlinear waveshaper with state (42_waveshaper.md): WS_RESET, WS_PROCESS, WS_CURVE.
-/

namespace Sys2Proof.Machine

/-! ## Derived coefficients and reset (R102, R103) -/

/-- `WS_DERIVE()` (R102). -/
def wsDerive (s : State) : State :=
  { s with ws := { s.ws with aRms := tauCoeff Open.tauRms s.prep.fs, aPk := tauCoeff Open.tauPeak s.prep.fs } }

/-- `WS_RESET_STATE()` (R103). -/
def wsResetState (s : State) : State :=
  { s with ws := { s.ws with chan := Vector.replicate Config.cMax WsChan.zero } }

/-! ## The five algorithms (R107 to R112): the channel's cells and the output -/

/-- Tube (R108). -/
def tube (ch : WsChan) (v : F32) : WsChan × F32 :=
  let t := Fp.add (Open.tubePath v) (Fp.mul Open.tubeHyst ch.tubeH)
  let y := Fp.clamp t (Fp.neg Config.tubeLim) Config.tubeLim
  ({ ch with tubeH := y }, y)

/-- Tape (R109). -/
def tape (ch : WsChan) (v : F32) : WsChan × F32 :=
  let u := Fp.add v (Fp.mul Open.tapeBiasAmp (Open.sin ch.tapePhi))
  let p := Fp.add ch.tapePhi Open.tapeBiasInc
  let phi := if Fp.ge p Fp.twoPi then Fp.sub p Fp.twoPi else p
  let h := if Fp.gt (Fp.abs u) Config.tapeCoerc
    then Fp.add (Fp.mul Config.tapeNew (Open.tapeSat u)) (Fp.mul Config.tapeOld ch.tapeM) else ch.tapeM
  let d := Fp.sub h (Fp.mul Config.tapeGap (Fp.sub h ch.tapePrev))
  ({ ch with tapePhi := phi, tapeM := h, tapePrev := h }, Fp.clamp d (Fp.neg Config.tapeLim) Config.tapeLim)

/-- Transistor (R110). -/
def transistor (ch : WsChan) (v : F32) : WsChan × F32 :=
  let a := if Fp.lt (Fp.abs v) Config.xsThresh then Open.xsLow v else Open.xsHigh v
  let t := Fp.sub a (Fp.mul Config.xsFb ch.xsFb)
  let y := Fp.clamp t (Fp.neg Config.xsLim) Config.xsLim
  ({ ch with xsFb := y }, y)

/-- Diode, stateless (R111). -/
def diode (ch : WsChan) (v : F32) : WsChan × F32 :=
  let nvt := Fp.mul Config.diodeN Config.diodeVt
  let d := if Fp.ge v Fp.zero
    then Fp.mul (Fp.mul Config.diodePos Open.diodeIs)
      (Fp.sub (Open.exp (Fp.min (Fp.div v nvt) Config.diodeExpMax)) Fp.one)
    else Fp.neg (Fp.mul Open.diodeIs
      (Fp.sub (Open.exp (Fp.min (Fp.div (Fp.neg v) nvt) Config.diodeExpMax)) Fp.one))
  let r := Open.tanh (Fp.mul Open.diodeK d)
  (ch, Fp.clamp r (Fp.neg Config.diodeLim) Config.diodeLim)

/-- Fuzz (R112). -/
def fuzz (ch : WsChan) (v : F32) : WsChan × F32 :=
  let drift := Fp.add ch.fuzzDrift (Fp.mul (Fp.sub (Fp.mul v v) ch.fuzzDrift) Config.fuzzDriftK)
  let a1 := Open.fuzzS1 v (Open.fuzzVt drift) ch.fuzzM2
  let a2 := Open.fuzzS2 a1 ch.fuzzM1
  ({ ch with fuzzDrift := drift, fuzzM1 := a1, fuzzM2 := a2 },
    Fp.clamp a2 (Fp.neg Config.fuzzLim) Config.fuzzLim)

/-- `ALG(alg, c, v)` (R107). `ALGORITHM` holds 0 to 4 (R92), so the last arm is Fuzz (log 15). -/
def algorithm (alg : Nat) (ch : WsChan) (v : F32) : WsChan × F32 :=
  match alg with
  | 0 => tube ch v
  | 1 => tape ch v
  | 2 => transistor ch v
  | 3 => diode ch v
  | _ => fuzz ch v

/-! ## Meter, mix and one sample (R104, R105, R113) -/

/-- The mean square after one sample (R105). -/
def meterMs (a ms x : F32) : F32 := smooth a ms (Fp.mul x x)

/-- The peak after one sample: instant attack, one-pole release (R105). -/
def meterPk (a pk x : F32) : F32 := if Fp.gt (Fp.abs x) pk then Fp.abs x else smooth a pk (Fp.abs x)

/-- `MIX(dry, wet, m, solo)` (R113). -/
def mix (dry wet m : F32) (solo : Bool) : F32 :=
  if solo then wet else Fp.add (Fp.mul dry (Fp.sub Fp.one m)) (Fp.mul wet m)

/-- What one WS_PROCESS fixes for all samples (R104): the drive gain, the mix, the algorithm, solo, and the
meter coefficients. -/
structure WsSetup where
  gain : F32
  mixFrac : F32
  alg : Nat
  solo : Bool
  aRms : F32
  aPk : F32
deriving DecidableEq, Repr

/-- The setup from the snapshot (R104). -/
def wsSetup (par : Params) (w : WsState) : WsSetup :=
  { gain := db2lin par.driveDb, mixFrac := Fp.div par.mixPct Fp.hundred, alg := par.algorithm.toNat
    solo := par.solo == 1#32, aRms := w.aRms, aPk := w.aPk }

/-- The oversampled values, each driven, through the algorithm in order (R104). -/
def wsOversampled (p : WsSetup) (ch : WsChan) (us : List F32) : WsChan × List F32 :=
  mapAccum (fun a u => algorithm p.alg a (Fp.mul p.gain u)) ch us

/-- One sample of one channel (R104). -/
def wsSample (p : WsSetup) (ch : WsChan) (x : F32) : WsChan × F32 :=
  let ch1 := { ch with inMs := meterMs p.aRms ch.inMs x, inPk := meterPk p.aPk ch.inPk x }
  let up := Open.osUp ch1.osUp x
  let r := wsOversampled p { ch1 with osUp := up.1 } up.2
  let dn := Open.osDown r.1.osDown r.2
  let y := mix x dn.2 p.mixFrac p.solo
  ({ r.1 with osDown := dn.1, outMs := meterMs p.aRms r.1.outMs y, outPk := meterPk p.aPk r.1.outPk y }, y)

/-- One channel of WS_PROCESS (R104). -/
def wsChannel (p : WsSetup) (ns c : Nat) (s : State) : State :=
  let xs := readBlock s c ns
  let r := mapAccum (wsSample p) (vget s.ws.chan c WsChan.zero) xs
  writeBlock c r.2 (note xs { s with ws := { s.ws with chan := vset s.ws.chan c r.1 } })

/-- `WS_PROCESS(NS)` (R104). -/
def wsProcess (par : Params) (ns : Nat) (s : State) : State :=
  each (chans s) (wsChannel (wsSetup par s.ws) ns) s

/-! ## Free values after a non-finite sample (R172; log 2) -/

/-- Free values in the samples a command writes. -/
def freeSamples (d ns : Nat) (s : State) : State :=
  each (chans s) (fun c => writeBlock c ((List.range ns).map (fun i => Config.freeCell d (.sample c i)))) s

/-- Free values in the cells of the selected algorithm (R107). -/
def freeAlg (d c alg : Nat) (ch : WsChan) : WsChan :=
  match alg with
  | 0 => { ch with tubeH := Config.freeCell d (.tubeH c) }
  | 1 => { ch with
      tapePhi := Config.freeCell d (.tapePhi c), tapeM := Config.freeCell d (.tapeM c)
      tapePrev := Config.freeCell d (.tapePrev c) }
  | 2 => { ch with xsFb := Config.freeCell d (.xsFb c) }
  | 3 => ch
  | _ => { ch with
      fuzzDrift := Config.freeCell d (.fuzzDrift c), fuzzM1 := Config.freeCell d (.fuzzM1 c)
      fuzzM2 := Config.freeCell d (.fuzzM2 c) }

/-- Free values in a channel's cells. -/
def freeWsChan (d c alg : Nat) (ch : WsChan) : WsChan :=
  { freeAlg d c alg ch with
    osUp := Config.freeOs d c true, osDown := Config.freeOs d c false
    inMs := Config.freeCell d (.inMs c), inPk := Config.freeCell d (.inPk c)
    outMs := Config.freeCell d (.outMs c), outPk := Config.freeCell d (.outPk c) }

/-- Free values in what WS_PROCESS updates besides the samples. -/
def freeWs (par : Params) (d : Nat) (s : State) : State :=
  each (chans s) (fun c t =>
    { t with ws := { t.ws with
        chan := vset t.ws.chan c
          (freeWsChan d c par.algorithm.toNat (vget t.ws.chan c WsChan.zero)) } }) s

/-! ## The commands -/

/-- WS_RESET's rule (R103). -/
def bodyWsReset : Body := fun _ s => .next (wsResetState s)

/-- WS_PROCESS's rule (R104). -/
def bodyWsProcess (ns : Nat) : Body := fun r s =>
  onSamples ns s
    (settle (fun d _ t => freeSamples d ns (freeWs r.snap.par d t)) s (wsProcess r.snap.par ns s))

/-- The value WS_CURVE computes: one call of the algorithm on cells of zeros (R114). -/
def wsCurveValue (sn : Snapshot) : F32 :=
  (algorithm sn.par.algorithm.toNat WsChan.zero (Fp.mul (db2lin sn.par.driveDb) sn.arg)).2

/-- WS_CURVE's rule (R114). -/
def bodyWsCurve : Body := fun r s =>
  .next (settle (fun d _ t => { t with result := Config.freeCell d .result }) s
    { note [r.snap.arg] s with result := wsCurveValue r.snap })

/-- `WS_RESET` (R103). -/
def execWsReset (s : State) : Result := issue (cmdWord 0x40 0 0) none bodyWsReset s

/-- `WS_PROCESS` (R104). -/
def execWsProcess (ns : Nat) (s : State) : Result :=
  issue (cmdWord 0x41 0 ns) (checkBlock ns s) (bodyWsProcess ns) s

/-- `WS_CURVE` (R114). -/
def execWsCurve (s : State) : Result := issue (cmdWord 0x42 0 0) (checkPrepared s) bodyWsCurve s

end Sys2Proof.Machine
end

