-- ==== Sys2Proof/Machine/FirPair.lean ====
section
/-!
DEFINITION. The linear-phase FIR filter pair, two instances (45_fir_pair.md): FIR_RESET, FIR_PROCESS.
-/

namespace Sys2Proof.Machine

/-! ## Design (R138 to R140) -/

/-- One entry of the Blackman window (R138). -/
def blackman (i : Nat) : F32 :=
  let n := Fp.ofInt Config.blackmanDen
  Fp.add
    (Fp.sub Config.blkA0 (Fp.mul Config.blkA1 (Open.cos (Fp.div (Fp.mul Fp.twoPi (Fp.ofInt i)) n))))
    (Fp.mul Config.blkA2 (Open.cos (Fp.div (Fp.mul (Fp.mul Fp.two Fp.twoPi) (Fp.ofInt i)) n)))

/-- One windowed tap before normalisation (R139). -/
def sincTap (nu : F32) (i : Nat) : F32 :=
  let m : Int := (i : Int) - 255
  let s := if m = 0 then Fp.mul Fp.two nu
    else Fp.div (Open.sin (Fp.mul (Fp.mul Fp.twoPi nu) (Fp.ofInt m))) (Fp.mul Fp.pi (Fp.ofInt m))
  Fp.mul s (blackman i)

/-- `LP(fc, fs)` (R139). -/
def lowPass (fc fs : F32) : Vector F32 Config.firTaps :=
  let p := tab Config.firTaps (sincTap (Fp.div fc fs))
  let total := Fp.sum p.toList
  vmap (fun x => Fp.div x total) p

/-- `HP(fc, fs)` (R140). -/
def highPass (fc fs : F32) : Vector F32 Config.firTaps :=
  let g := lowPass fc fs
  vset (vmap Fp.neg g) 255 (Fp.sub Fp.one (vget g 255 0))

/-! ## Cutoffs, bypass, redesign (R141, R144, R145) -/

/-- The realised low-cut request: `clamp(LOWCUT_HZ, 20, 0.45*fs)` (R144). -/
def lowCut (par : Params) (fs : F32) : F32 := Fp.clamp par.lowcutHz Config.lcMin (Fp.mul Config.cutMaxFrac fs)

/-- The realised high-cut request: `clamp(HIGHCUT_HZ, 1000, 0.45*fs)` (R144). -/
def highCut (par : Params) (fs : F32) : F32 := Fp.clamp par.highcutHz Config.hcMin (Fp.mul Config.cutMaxFrac fs)

/-- The low-cut filter is bypassed: the clamped value is 20.0 (R144). -/
def lowBypass (par : Params) (fs : F32) : Bool := Fp.eq (lowCut par fs) Config.lcMin

/-- The high-cut filter is bypassed: the written value is at least 20000.0 (R144). -/
def highBypass (par : Params) : Bool := Fp.ge par.highcutHz Config.hcBypass

/-- Instance `inst`. -/
def firInst (s : State) (inst : Nat) : FirInst := vget s.fir inst FirInst.reset

/-- `FIR_DERIVE(inst, L)` (R141). -/
def firDerive (par : Params) (inst : Nat) (s : State) : State :=
  let lc := lowCut par s.prep.fs
  let hc := highCut par s.prep.fs
  { s with fir := vset s.fir inst { firInst s inst with
      hLc := highPass lc s.prep.fs, frLc := lc, hHc := lowPass hc s.prep.fs, frHc := hc } }

/-- The low-cut filter of an instance is redesigned (R145). -/
def lowStale (par : Params) (fs : F32) (f : FirInst) : Bool :=
  !lowBypass par fs && Fp.gt (Fp.abs (Fp.sub (lowCut par fs) f.frLc)) Config.firRecalcHz

/-- The high-cut filter of an instance is redesigned (R145). -/
def highStale (par : Params) (fs : F32) (f : FirInst) : Bool :=
  !highBypass par && Fp.gt (Fp.abs (Fp.sub (highCut par fs) f.frHc)) Config.firRecalcHz

/-- `REDESIGN` (R145). -/
def redesign (par : Params) (fs : F32) (f : FirInst) : FirInst :=
  { f with
    hLc := if lowStale par fs f then highPass (lowCut par fs) fs else f.hLc
    frLc := if lowStale par fs f then lowCut par fs else f.frLc
    hHc := if highStale par fs f then lowPass (highCut par fs) fs else f.hHc
    frHc := if highStale par fs f then highCut par fs else f.frHc }

/-! ## Processing (R142, R143, R146) -/

/-- `FIR_RESET_STATE(inst)` (R142). -/
def firResetState (inst : Nat) (s : State) : State :=
  { s with fir := vset s.fir inst { firInst s inst with dlLc := FirInst.zeroDl, dlHc := FirInst.zeroDl } }

/-- `FIRSTEP(h, dl, x)`: the new delay line and the output (R146). -/
def firStep (h : Vector F32 Config.firTaps) (dl : Vector F32 Config.firDelay) (x : F32) :
    Vector F32 Config.firDelay × F32 :=
  (shiftIn x dl,
    (List.zip h.toList.tail dl.toList).foldl (fun y p => Fp.add y (Fp.mul p.1 p.2)) (Fp.mul (vget h 0 0) x))

/-- One sample through the filters that are not bypassed, low-cut first (R143). -/
def firSample (lcBy hcBy : Bool) (f : FirInst) (dl : Vector F32 Config.firDelay × Vector F32 Config.firDelay)
    (x : F32) : (Vector F32 Config.firDelay × Vector F32 Config.firDelay) × F32 :=
  let a := if lcBy then (dl.1, x) else firStep f.hLc dl.1 x
  let b := if hcBy then (dl.2, a.2) else firStep f.hHc dl.2 a.2
  ((a.1, b.1), b.2)

/-- An empty delay line. -/
def noLine : Vector F32 Config.firDelay := Vector.replicate Config.firDelay 0

/-- One channel of FIR_PROCESS (R143). -/
def firChannel (lcBy hcBy : Bool) (ns inst c : Nat) (s : State) : State :=
  let f := firInst s inst
  let xs := readBlock s c ns
  let r := mapAccum (firSample lcBy hcBy f) (vget f.dlLc c noLine, vget f.dlHc c noLine) xs
  let g := { f with dlLc := vset f.dlLc c r.1.1, dlHc := vset f.dlHc c r.1.2 }
  writeBlock c r.2 (note xs { s with fir := vset s.fir inst g })

/-- `FIR_PROCESS(NS, inst)` (R143). -/
def firProcess (par : Params) (ns inst : Nat) (s : State) : State :=
  if par.filterEn = 0 then s
  else
    let lcBy := lowBypass par s.prep.fs
    let hcBy := highBypass par
    let t := { s with fir := vset s.fir inst (redesign par s.prep.fs (firInst s inst)) }
    if lcBy && hcBy then t else each (chans t) (firChannel lcBy hcBy ns inst) t

/-- Free taps of a redesigned filter. -/
def freeTaps (d inst : Nat) (high : Bool) : Vector F32 Config.firTaps :=
  tab Config.firTaps (fun i => Config.freeCell d (.firTap inst high i))

/-- Free delay lines of the prepared channels. -/
def freeLines (d inst n : Nat) (high : Bool) (v : Vector (Vector F32 Config.firDelay) Config.cMax) :
    Vector (Vector F32 Config.firDelay) Config.cMax :=
  each n (fun c u => vset u c (tab Config.firDelay (fun j => Config.freeCell d (.firLine inst high c j)))) v

/-- Free values in what FIR_PROCESS updates besides the samples: the delay lines of the filters that ran and the
designs it replaced (R172; log 2). `s` is the state before the command. -/
def freeFir (par : Params) (inst d : Nat) (s t : State) : State :=
  if par.filterEn = 0 then t
  else
    let fs := s.prep.fs
    let f := firInst s inst
    let g := firInst t inst
    { t with fir := vset t.fir inst { g with
        hLc := if lowStale par fs f then freeTaps d inst false else g.hLc
        frLc := if lowStale par fs f then Config.freeCell d (.firCut inst false) else g.frLc
        hHc := if highStale par fs f then freeTaps d inst true else g.hHc
        frHc := if highStale par fs f then Config.freeCell d (.firCut inst true) else g.frHc
        dlLc := if lowBypass par fs then g.dlLc else freeLines d inst (chans s) false g.dlLc
        dlHc := if highBypass par then g.dlHc else freeLines d inst (chans s) true g.dlHc } }

/-- FIR_RESET's rule (R142). -/
def bodyFirReset (inst : Nat) : Body := fun _ s => .next (firResetState inst s)

/-- FIR_PROCESS's rule (R143). -/
def bodyFirProcess (inst ns : Nat) : Body := fun r s =>
  onSamples ns s
    (settle (fun d s t => freeSamples d ns (freeFir r.snap.par inst d s t)) s
      (firProcess r.snap.par ns inst s))

/-- `FIR_RESET` (R142). -/
def execFirReset (inst : Nat) (s : State) : Result :=
  issue (cmdWord 0x20 inst 0) none (bodyFirReset inst) s

/-- `FIR_PROCESS` (R143). -/
def execFirProcess (inst ns : Nat) (s : State) : Result :=
  issue (cmdWord 0x21 inst ns) (checkBlock ns s) (bodyFirProcess inst ns) s

end Sys2Proof.Machine
end

