-- ==== Sys2Proof/Machine/Loudness.lean ====
section
/-!
DEFINITION. The loudness metering loop (46_loudness.md): LM_RESET, LM_ANALYZE_IN, LM_ANALYZE_OUT, LM_APPLY.
-/

namespace Sys2Proof.Machine

/-- `KW_HP(f0, Q, fs)` (R148). -/
def kwHighPass (f0 q fs : F32) : Biquad :=
  let w := Fp.div (Fp.mul Fp.twoPi f0) fs
  let cs := Open.cos w
  let alpha := Fp.div (Open.sin w) (Fp.mul Fp.two q)
  let b := Fp.div (Fp.add Fp.one cs) Fp.two
  norm b (Fp.neg (Fp.add Fp.one cs)) b (Fp.add Fp.one alpha) (Fp.mul Fp.negTwo cs) (Fp.sub Fp.one alpha)

/-- `KW_SHELF(f0, gdb, Q, fs)` (R148). -/
def kwShelf (f0 gdb q fs : F32) : Biquad :=
  let a := db2lin40 gdb
  let w := Fp.div (Fp.mul Fp.twoPi f0) fs
  let cs := Open.cos w
  let alpha := Fp.div (Open.sin w) (Fp.mul Fp.two q)
  let r := Fp.mul (Fp.mul Fp.two (Fp.sqrt a)) alpha
  let ap := Fp.add a Fp.one
  let am := Fp.sub a Fp.one
  norm
    (Fp.mul a (Fp.add (Fp.add ap (Fp.mul am cs)) r))
    (Fp.mul (Fp.mul Fp.negTwo a) (Fp.add am (Fp.mul ap cs)))
    (Fp.mul a (Fp.sub (Fp.add ap (Fp.mul am cs)) r))
    (Fp.add (Fp.sub ap (Fp.mul am cs)) r)
    (Fp.mul Fp.two (Fp.sub am (Fp.mul ap cs)))
    (Fp.sub (Fp.sub ap (Fp.mul am cs)) r)

/-- `LM_DERIVE()` (R149). -/
def lmDerive (s : State) : State :=
  { s with lm := { s.lm with
      kHp := kwHighPass Config.kwHpHz Config.kwHpQ s.prep.fs
      kSh := kwShelf Config.kwShelfHz Config.kwShelfDb Config.kwShelfQ s.prep.fs
      aAtt := tauCoeff Open.tauAtt s.prep.fs
      aRel := tauCoeff Open.tauRel s.prep.fs } }

/-- The loudness unit after `LM_RESET_STATE()`: designs and coefficients are kept (R150). -/
def lmClear (m : LmState) : LmState :=
  { LmState.reset with kHp := m.kHp, kSh := m.kSh, aAtt := m.aAtt, aRel := m.aRel }

/-- `LM_RESET_STATE()` (R150). -/
def lmResetState (s : State) : State := { s with lm := lmClear s.lm }

/-! ## Measurement (R151) -/

/-- The running sums of `MEASURE` (R151). -/
structure Sums where
  sk : F32
  s : F32
  pk : F32
deriving DecidableEq, Repr

/-- One sample of `MEASURE` (R151). -/
def measureStep (kHp kSh : Biquad) (p : KwState × Sums) (x : F32) : KwState × Sums :=
  let t := bq kHp p.1.hp x
  let k := bq kSh p.1.sh t.1
  (⟨t.2, k.2⟩,
    { sk := Fp.add p.2.sk (Fp.mul k.1 k.1), s := Fp.add p.2.s (Fp.mul x x), pk := Fp.max p.2.pk (Fp.abs x) })

/-- All prepared channels, channel 0 first (R151). -/
def measureAll (s : State) (ns : Nat) (kw : Vector KwState Config.cMax) : Vector KwState Config.cMax × Sums :=
  each (chans s) (fun c p =>
    let r := (readBlock s c ns).foldl (measureStep s.lm.kHp s.lm.kSh) (vget p.1 c KwState.zero, p.2)
    (vset p.1 c r.1, r.2)) (kw, ⟨0, 0, 0⟩)

/-- `MEASURE(kw, NS)`: the loudness and the new K-weighting states (R151). -/
def measure (s : State) (ns : Nat) (kw : Vector KwState Config.cMax) : F32 × Vector KwState Config.cMax :=
  let r := measureAll s ns kw
  let n := Fp.ofInt (chans s * ns : Nat)
  (Open.loudness (Fp.sqrt (Fp.div r.2.sk n)) (Fp.sqrt (Fp.div r.2.s n)) r.2.pk, r.1)

/-- `LM_ANALYZE_IN(NS)` (R152). -/
def lmAnalyzeIn (ns : Nat) (s : State) : State :=
  let r := measure s ns s.lm.kwIn
  { noteAll ns s with lm := { s.lm with
      inLoud := r.1, kwIn := r.2
      target := if s.lm.targetValid then s.lm.target else r.1
      targetValid := true } }

/-- The compensation gain after an output measurement (R153). -/
def compAfter (m : LmState) (out : F32) : F32 :=
  if m.targetValid && Fp.gt m.target Fp.zero && Fp.gt out Fp.zero then
    Fp.add (Fp.mul m.compDb Config.lmGOld)
      (Fp.mul (Fp.clamp (lin2db (Fp.div m.target out)) (Fp.neg Config.lmDiffMax) Config.lmDiffMax) Config.lmGNew)
  else m.compDb

/-- `LM_ANALYZE_OUT(NS)` (R153). -/
def lmAnalyzeOut (ns : Nat) (s : State) : State :=
  let r := measure s ns (if Config.lmSharedKw then s.lm.kwIn else s.lm.kwOut)
  { noteAll ns s with lm := { s.lm with
      outLoud := r.1
      kwIn := if Config.lmSharedKw then r.2 else s.lm.kwIn
      kwOut := if Config.lmSharedKw then s.lm.kwOut else r.2
      compDb := compAfter s.lm r.1 } }

/-- The target gain of LM_APPLY (R154). -/
def applyTarget (m : LmState) : F32 :=
  if Fp.gt (Fp.abs m.compDb) Config.lmEngageDb then db2lin m.compDb else Fp.one

/-- The gain smoother's next value (R154). -/
def gainStep (m : LmState) (tgt g : F32) : F32 := smooth (if Fp.lt tgt g then m.aAtt else m.aRel) g tgt

/-- The gains of the block's sample indexes, and the last one (R154). -/
def applyGains (m : LmState) (ns : Nat) : F32 × List F32 :=
  mapAccum (fun g (_ : Nat) => (gainStep m (applyTarget m) g, gainStep m (applyTarget m) g)) m.gs (List.range ns)

/-- `LM_APPLY(NS)` (R154). -/
def lmApply (ns : Nat) (s : State) : State :=
  let g := applyGains s.lm ns
  each (chans s)
    (fun c t => writeBlock c (List.zipWith Fp.mul (readBlock t c ns) g.2) (note (readBlock t c ns) t))
    { s with lm := { s.lm with gs := g.1 } }

/-! ## Free values after a non-finite sample (R172; log 2) -/

/-- Free K-weighting states of the prepared channels. -/
def freeKw (d n : Nat) (out : Bool) (v : Vector KwState Config.cMax) : Vector KwState Config.cMax :=
  each n (fun c u => vset u c
    (⟨⟨Config.freeCell d (.kw out c 0), Config.freeCell d (.kw out c 1)⟩,
      ⟨Config.freeCell d (.kw out c 2), Config.freeCell d (.kw out c 3)⟩⟩ : KwState)) v

/-- Free values in what LM_ANALYZE_IN updates; `s` is the state before the command. -/
def freeLmIn (d : Nat) (s t : State) : State :=
  { t with lm := { t.lm with
      inLoud := Config.freeCell d .lmInLoud, kwIn := freeKw d (chans s) false t.lm.kwIn
      target := if s.lm.targetValid then t.lm.target else Config.freeCell d .lmTarget } }

/-- Free values in what LM_ANALYZE_OUT updates: the compensation gain where a target is latched that may be
positive. `s` is the state before the command. -/
def freeLmOut (d : Nat) (s t : State) : State :=
  { t with lm := { t.lm with
      outLoud := Config.freeCell d .lmOutLoud
      kwIn := if Config.lmSharedKw then freeKw d (chans s) false t.lm.kwIn else t.lm.kwIn
      kwOut := if Config.lmSharedKw then t.lm.kwOut else freeKw d (chans s) true t.lm.kwOut
      compDb := if t.lm.targetValid && (!s.lm.targetValid || Fp.gt t.lm.target Fp.zero)
        then Config.freeCell d .lmCompDb else t.lm.compDb } }

/-- Free values in what LM_APPLY updates besides the samples. -/
def freeLmApply (d : Nat) (t : State) : State := { t with lm := { t.lm with gs := Config.freeCell d .lmGs } }

/-! ## The commands -/

/-- LM_RESET's rule (R150). -/
def bodyLmReset : Body := fun _ s => .next (lmResetState s)

/-- LM_ANALYZE_IN's rule (R152). -/
def bodyLmAnalyzeIn (ns : Nat) : Body := fun _ s => onSamples ns s (settle freeLmIn s (lmAnalyzeIn ns s))

/-- LM_ANALYZE_OUT's rule (R153). -/
def bodyLmAnalyzeOut (ns : Nat) : Body := fun _ s => onSamples ns s (settle freeLmOut s (lmAnalyzeOut ns s))

/-- LM_APPLY's rule (R154). -/
def bodyLmApply (ns : Nat) : Body := fun _ s =>
  onSamples ns s (settle (fun d _ t => freeSamples d ns (freeLmApply d t)) s (lmApply ns s))

/-- `LM_RESET` (R150). -/
def execLmReset (s : State) : Result := issue (cmdWord 0x50 0 0) none bodyLmReset s

/-- `LM_ANALYZE_IN` (R152). -/
def execLmAnalyzeIn (ns : Nat) (s : State) : Result :=
  issue (cmdWord 0x51 0 ns) (checkBlock ns s) (bodyLmAnalyzeIn ns) s

/-- `LM_ANALYZE_OUT` (R153). -/
def execLmAnalyzeOut (ns : Nat) (s : State) : Result :=
  issue (cmdWord 0x52 0 ns) (checkBlock ns s) (bodyLmAnalyzeOut ns) s

/-- `LM_APPLY` (R154). -/
def execLmApply (ns : Nat) (s : State) : Result :=
  issue (cmdWord 0x53 0 ns) (checkBlock ns s) (bodyLmApply ns) s

end Sys2Proof.Machine
end

