-- ==== Sys2Proof/Machine/PeakingEq.lean ====
section
/-!
DEFINITION. The adaptive peaking-EQ bank (43_peaking_eq.md): PEQ_RESET, PEQ_PROCESS.
-/

namespace Sys2Proof.Machine

/-- `F[b]` (R41). -/
def bandHz (b : Nat) : F32 := Config.bandHz.getD b 0

/-- The analysis bin of a band (R117). -/
def bandBin (fs : F32) (b : Nat) : BitVec 11 :=
  let r := Fp.mul (Fp.div (bandHz b) (Fp.div fs Fp.two)) (Fp.ofInt Config.spaBins)
  BitVec.ofInt 11 (Fp.floor (Fp.clamp (Fp.add r Fp.half) Fp.one (Fp.ofInt (Config.spaBins - 1))))

/-- Every band of the equaliser changed by a function of its number. -/
def mapBands (f : Nat → EqBand → EqBand) (v : Vector EqBand Config.numBands) : Vector EqBand Config.numBands :=
  tab Config.numBands (fun b => f b (vget v b EqBand.reset))

/-- `EQ_DERIVE()` (R117). -/
def eqDerive (s : State) : State :=
  { s with peq := { s.peq with band := mapBands (fun b x => { x with bin := bandBin s.prep.fs b }) s.peq.band } }

/-- A band after `PEQ_RESET_STATE()`: its bin is kept (R118). -/
def bandClear (x : EqBand) : EqBand := { EqBand.reset with bin := x.bin }

/-- `PEQ_RESET_STATE()` (R118). -/
def peqResetState (s : State) : State :=
  { s with peq := { s.peq with band := mapBands (fun _ => bandClear) s.peq.band, st := PeqState.zeroSt } }

/-- `BAND_DB(b)` from the magnitude of the band's bin (R120). -/
def bandDb (m : F32) : F32 := if Fp.gt m Fp.zero then Fp.max (lin2db m) Config.eqDbFloor else Config.eqDbFloor

/-- The smoothing coefficient of a block (R121). -/
def eqCoeff (par : Params) (fs : F32) (ns : Nat) : F32 :=
  Open.exp (Fp.div Fp.negOne (Fp.div (Fp.mul (Fp.div par.eqReactionMs Fp.thousand) fs) (Fp.ofInt ns)))

/-- `PEAK(g, f, fs)` (R125). -/
def peak (g f fs : F32) : Biquad :=
  let a := db2lin40 g
  let w := Fp.div (Fp.mul Fp.twoPi f) fs
  let alpha := Fp.div (Open.sin w) (Fp.mul Fp.two Config.eqQ)
  let b1 := Fp.mul Fp.negTwo (Open.cos w)
  norm (Fp.add Fp.one (Fp.mul alpha a)) b1 (Fp.sub Fp.one (Fp.mul alpha a))
    (Fp.add Fp.one (Fp.div alpha a)) b1 (Fp.sub Fp.one (Fp.div alpha a))

/-- `SMOOTH_SPECTRUM`, given the coefficient and the reading (R121). -/
def smoothSpectrum (coeff db : F32) (x : EqBand) : EqBand := { x with sspec := smooth coeff x.sspec db }

/-- `TARGET(b)` (R122). -/
def eqTargetStep (par : Params) (b : Nat) (x : EqBand) : EqBand :=
  let diff := Fp.sub (Open.targetCurve par.eqCurve.toNat b) x.sspec
  let corr := Fp.mul diff (Fp.div par.eqStrengthPct Fp.hundred)
  { x with target := Fp.clamp corr (Fp.neg Config.eqCorrMax) Config.eqCorrMax }

/-- `SMOOTH_GAIN(b)` (R123). -/
def smoothGain (x : EqBand) : EqBand :=
  { x with sgain := Fp.add (Fp.mul x.sgain Config.eqGOld) (Fp.mul x.target Config.eqGNew) }

/-- `GATE(b)` (R124). -/
def gate (fs : F32) (b : Nat) (x : EqBand) : EqBand :=
  if Fp.gt (Fp.abs (Fp.sub x.sgain x.gain)) Config.eqRecalcDb
  then { x with gain := x.sgain, coef := peak x.sgain (bandHz b) fs } else x

/-- The control loop of one band in one block (R119). -/
def bandLoop (par : Params) (fs : F32) (ns : Nat) (spec : Vector F32 Config.spaBins) (b : Nat) (x : EqBand) :
    EqBand :=
  gate fs b (smoothGain (eqTargetStep par b
    (smoothSpectrum (eqCoeff par fs ns) (bandDb (vget spec x.bin.toNat 0)) x)))

/-- One sample through the eight bands (R126). -/
def bandChain (band : Vector EqBand Config.numBands) (st : Vector BqState Config.numBands) (x : F32) :
    Vector BqState Config.numBands × F32 :=
  each Config.numBands (fun b p =>
    let r := bq (vget band b EqBand.reset).coef (vget p.1 b BqState.zero) p.2
    (vset p.1 b r.2, r.1)) (st, x)

/-- One channel of `FILTER_BLOCK` (R126). -/
def peqChannel (ns c : Nat) (s : State) : State :=
  let xs := readBlock s c ns
  let r := mapAccum (bandChain s.peq.band)
    (vget s.peq.st c (Vector.replicate Config.numBands BqState.zero)) xs
  writeBlock c r.2 (note xs { s with peq := { s.peq with st := vset s.peq.st c r.1 } })

/-- `PEQ_PROCESS(NS)`, enabled (R119): feed, the loop of all bands, then the filters. -/
def peqRun (par : Params) (ns : Nat) (s : State) : State :=
  let t := spaFeed ns s
  let u := { t with peq := { t.peq with
    band := mapBands (bandLoop par t.prep.fs ns t.spa.spec) t.peq.band } }
  each (chans u) (peqChannel ns) u

/-- `PEQ_PROCESS(NS)`: disabled, nothing at all (R119, R128). -/
def peqProcess (par : Params) (ns : Nat) (s : State) : State := if par.eqEn = 0 then s else peqRun par ns s

/-- Free values in a band's cells. -/
def freeBand (d b : Nat) (x : EqBand) : EqBand :=
  { x with
    gain := Config.freeCell d (.eqGain b), target := Config.freeCell d (.eqTarget b)
    sgain := Config.freeCell d (.eqSgain b), sspec := Config.freeCell d (.eqSspec b)
    coef := ⟨Config.freeCell d (.eqCoef b 0), Config.freeCell d (.eqCoef b 1), Config.freeCell d (.eqCoef b 2),
      Config.freeCell d (.eqCoef b 3), Config.freeCell d (.eqCoef b 4)⟩ }

/-- Free band filter states of the first `n` channels. -/
def freeSt (d n : Nat) (v : Vector (Vector BqState Config.numBands) Config.cMax) :
    Vector (Vector BqState Config.numBands) Config.cMax :=
  each n (fun c u => vset u c (tab Config.numBands (fun b =>
    BqState.mk (Config.freeCell d (.eqState c b 1)) (Config.freeCell d (.eqState c b 2))))) v

/-- Free values in what PEQ_PROCESS updates besides the samples (R172; log 2). -/
def freePeq (par : Params) (ns d : Nat) (s t : State) : State :=
  if par.eqEn = 0 then t
  else
    let u := freeSpa ns d s t
    { u with peq := ⟨mapBands (freeBand d) u.peq.band, freeSt d (chans u) u.peq.st⟩ }

/-- PEQ_RESET's rule (R118). -/
def bodyPeqReset : Body := fun _ s => .next (peqResetState s)

/-- PEQ_PROCESS's rule (R119). -/
def bodyPeqProcess (ns : Nat) : Body := fun r s =>
  onSamples ns s
    (settle (fun d s t => freeSamples d ns (freePeq r.snap.par ns d s t)) s (peqProcess r.snap.par ns s))

/-- `PEQ_RESET` (R118). -/
def execPeqReset (s : State) : Result := issue (cmdWord 0x30 0 0) none bodyPeqReset s

/-- `PEQ_PROCESS` (R119). -/
def execPeqProcess (ns : Nat) (s : State) : Result :=
  issue (cmdWord 0x31 0 ns) (checkBlock ns s) (bodyPeqProcess ns) s

end Sys2Proof.Machine
end

