-- ==== Sys2Proof/Machine/Chain.lean ====
section
/-!
DEFINITION. The chain sequencer (47_chain.md): CHAIN_PROCESS.
-/

namespace Sys2Proof.Machine

/-- One channel of a gain stage (R156). -/
def gainChannel (gl : F32) (ns c : Nat) (s : State) : State :=
  writeBlock c ((readBlock s c ns).map (fun x => Fp.mul x gl)) (note (readBlock s c ns) s)

/-- `GAIN(gdb, NS)` (R156). -/
def gain (gdb : F32) (ns : Nat) (s : State) : State := each (chans s) (gainChannel (db2lin gdb) ns) s

/-- `CHAIN_PROCESS(NS)`: the nine steps in the document's order, one snapshot for all (R157). -/
def chainSteps (par : Params) (ns : Nat) (s : State) : State :=
  let s1 := lmAnalyzeIn ns s
  let s2 := gain par.inGainDb ns s1
  let s3 := firProcess par ns 0 s2
  let s4 := wsProcess par ns s3
  let s5 := peqProcess par ns s4
  let s6 := firProcess par ns 1 s5
  let s7 := gain par.outGainDb ns s6
  let s8 := lmAnalyzeOut ns s7
  lmApply ns s8

/-- Free values in what the nine steps update (R172; log 2). `s` is the state before the command. -/
def freeChain (par : Params) (ns d : Nat) (s t : State) : State :=
  let t1 := freeLmOut d s t
  let t2 := freeLmIn d s t1
  let t3 := freeFir par 0 d s t2
  let t4 := freeFir par 1 d s t3
  let t5 := freeWs par d t4
  let t6 := freePeq par ns d s t5
  freeSamples d ns (freeLmApply d t6)

/-- CHAIN_PROCESS's rule (R157). -/
def bodyChainProcess (ns : Nat) : Body := fun r s =>
  onSamples ns s (settle (freeChain r.snap.par ns) s (chainSteps r.snap.par ns s))

/-- `CHAIN_PROCESS` (R157). -/
def execChainProcess (ns : Nat) (s : State) : Result :=
  issue (cmdWord 0x60 0 ns) (checkBlock ns s) (bodyChainProcess ns) s

end Sys2Proof.Machine
end

