-- ==== Sys2Proof/Machine/Monitor.lean ====
section
/-!
DEFINITION. The monitor registers and the RAM windows (48_monitor.md).
-/

namespace Sys2Proof.Machine

/-- A monitor read: while a command runs the value is free (R168; log 4), else it is the view. -/
def monitorRead (w : Word) (s : State) : State := if busy s then giveFree s else give w s

/-- A level meter: 0.0 for a slot beyond the prepared channels (R160). -/
def meterWord (f : WsChan → F32) (slot : Nat) (s : State) : Word :=
  if slot < chans s then f (vget s.ws.chan slot WsChan.zero) else 0

/-- A word of a RAM window read: refused while a command runs (R164 to R166, R53). -/
def windowRead (addr : Nat) (w : Word) (s : State) : State :=
  if busy s then refuse false .busyRam (BitVec.ofNat 32 addr) s else give w s

/-! ## Monitor registers (R160 to R163) -/

/-- `RD.WS_IN_RMS` (R160). -/
def execRdWsInRms (slot : Nat) (s : State) : Result :=
  .next (monitorRead (meterWord (fun ch => Fp.sqrt ch.inMs) slot s) s)

/-- `RD.WS_IN_PEAK` (R160). -/
def execRdWsInPeak (slot : Nat) (s : State) : Result :=
  .next (monitorRead (meterWord (fun ch => ch.inPk) slot s) s)

/-- `RD.WS_OUT_RMS` (R160). -/
def execRdWsOutRms (slot : Nat) (s : State) : Result :=
  .next (monitorRead (meterWord (fun ch => Fp.sqrt ch.outMs) slot s) s)

/-- `RD.WS_OUT_PEAK` (R160). -/
def execRdWsOutPeak (slot : Nat) (s : State) : Result :=
  .next (monitorRead (meterWord (fun ch => ch.outPk) slot s) s)

/-- `RD.EQ_GAIN` (R161). -/
def execRdEqGain (band : Nat) (s : State) : Result :=
  .next (monitorRead (vget s.peq.band band EqBand.reset).gain s)

/-- `RD.EQ_TARGET`: from the curve register, busy or not (R161). -/
def execRdEqTarget (band : Nat) (s : State) : Result :=
  .next (give (Open.targetCurve s.par.eqCurve.toNat band) s)

/-- `RD.EQ_SPECTRUM` (R161). -/
def execRdEqSpectrum (band : Nat) (s : State) : Result :=
  .next (monitorRead (vget s.peq.band band EqBand.reset).sspec s)

/-- `RD.LM_COMP_DB` (R162). -/
def execRdLmCompDb (s : State) : Result := .next (monitorRead s.lm.compDb s)

/-- `RD.LM_IN_LOUD` (R162). -/
def execRdLmInLoud (s : State) : Result := .next (monitorRead s.lm.inLoud s)

/-- `RD.LM_OUT_LOUD` (R162). -/
def execRdLmOutLoud (s : State) : Result := .next (monitorRead s.lm.outLoud s)

/-- `RD.LM_TARGET` (R162). -/
def execRdLmTarget (s : State) : Result := .next (monitorRead s.lm.target s)

/-- `RD.LM_GAIN_LIN` (R162). -/
def execRdLmGainLin (s : State) : Result := .next (monitorRead s.lm.gs s)

/-- `RD.SPA_WPOS` (R163). -/
def execRdSpaWpos (s : State) : Result := .next (monitorRead (s.spa.wpos.setWidth 32) s)

/-- `RD.SPA_COUNT` (R163). -/
def execRdSpaCount (s : State) : Result := .next (monitorRead s.spa.count s)

/-! ## RAM windows (R164 to R167) -/

/-- `RD.SPEC` (R164). -/
def execRdSpec (k : Nat) (s : State) : Result := .next (windowRead (0x8000 + 4 * k) (vget s.spa.spec k 0) s)

/-- `RD.BINFREQ` (R165). -/
def execRdBinfreq (k : Nat) (s : State) : Result := .next (windowRead (0x9000 + 4 * k) (vget s.spa.binfreq k 0) s)

/-- `RD.SAMPLE` (R166). -/
def execRdSample (c i : Nat) (s : State) : Result := .next (windowRead (saddr c i) (sampleAt s c i) s)

/-- `WR.SAMPLE` (R167). -/
def execWrSample (c i : Nat) (w : Word) (s : State) : Result :=
  .next (if busy s then refuse true .busyRam (BitVec.ofNat 32 (saddr c i)) s
    else { s with mem := s.mem.writeWord (saddr c i) w })

end Sys2Proof.Machine
end

