-- ==== Sys2Proof/Machine/Params.lean ====
section
/-!
DEFINITION. The thirteen parameter registers: their writes, which clamp (41_params.md R88 to R100), and their
reads (R101).
-/

namespace Sys2Proof.Machine

/-! ## Writes (R88 to R100) -/

/-- `WR.IN_GAIN_DB` (R88). -/
def execWrInGainDb (w : Word) (s : State) : Result :=
  .next (writeFloat (fun x p => { p with inGainDb := x }) Config.gainLo Config.gainHi w s)

/-- `WR.OUT_GAIN_DB` (R89). -/
def execWrOutGainDb (w : Word) (s : State) : Result :=
  .next (writeFloat (fun x p => { p with outGainDb := x }) Config.gainLo Config.gainHi w s)

/-- `WR.DRIVE_DB` (R90). -/
def execWrDriveDb (w : Word) (s : State) : Result :=
  .next (writeFloat (fun x p => { p with driveDb := x }) Config.driveLo Config.driveHi w s)

/-- `WR.MIX_PCT` (R91). -/
def execWrMixPct (w : Word) (s : State) : Result :=
  .next (writeFloat (fun x p => { p with mixPct := x }) Config.pctLo Config.pctHi w s)

/-- `WR.ALGORITHM` (R92). -/
def execWrAlgorithm (w : Word) (s : State) : Result :=
  .next (writeInt (fun x p => { p with algorithm := x }) Config.algMax w s)

/-- `WR.SOLO` (R93). -/
def execWrSolo (w : Word) (s : State) : Result :=
  .next (writeBool (fun x p => { p with solo := x }) w s)

/-- `WR.LOWCUT_HZ` (R94). -/
def execWrLowcutHz (w : Word) (s : State) : Result :=
  .next (writeCutoff (fun x p => { p with lowcutHz := x }) w s)

/-- `WR.HIGHCUT_HZ` (R95). -/
def execWrHighcutHz (w : Word) (s : State) : Result :=
  .next (writeCutoff (fun x p => { p with highcutHz := x }) w s)

/-- `WR.FILTER_EN` (R96). -/
def execWrFilterEn (w : Word) (s : State) : Result :=
  .next (writeBool (fun x p => { p with filterEn := x }) w s)

/-- `WR.EQ_EN` (R97). -/
def execWrEqEn (w : Word) (s : State) : Result :=
  .next (writeBool (fun x p => { p with eqEn := x }) w s)

/-- `WR.EQ_CURVE` (R98). -/
def execWrEqCurve (w : Word) (s : State) : Result :=
  .next (writeInt (fun x p => { p with eqCurve := x }) Config.curveMax w s)

/-- `WR.EQ_STRENGTH_PCT` (R99). -/
def execWrEqStrengthPct (w : Word) (s : State) : Result :=
  .next (writeFloat (fun x p => { p with eqStrengthPct := x }) Config.pctLo Config.pctHi w s)

/-- `WR.EQ_REACTION_MS` (R100). -/
def execWrEqReactionMs (w : Word) (s : State) : Result :=
  .next (writeFloat (fun x p => { p with eqReactionMs := x }) Config.reactionLo Config.reactionHi w s)

/-! ## Reads (R101) -/

/-- `RD.IN_GAIN_DB` (R101). -/
def execRdInGainDb (s : State) : Result := .next (give s.par.inGainDb s)

/-- `RD.OUT_GAIN_DB` (R101). -/
def execRdOutGainDb (s : State) : Result := .next (give s.par.outGainDb s)

/-- `RD.DRIVE_DB` (R101). -/
def execRdDriveDb (s : State) : Result := .next (give s.par.driveDb s)

/-- `RD.MIX_PCT` (R101). -/
def execRdMixPct (s : State) : Result := .next (give s.par.mixPct s)

/-- `RD.ALGORITHM` (R101). -/
def execRdAlgorithm (s : State) : Result := .next (give s.par.algorithm s)

/-- `RD.SOLO` (R101). -/
def execRdSolo (s : State) : Result := .next (give s.par.solo s)

/-- `RD.LOWCUT_HZ` (R101). -/
def execRdLowcutHz (s : State) : Result := .next (give s.par.lowcutHz s)

/-- `RD.HIGHCUT_HZ` (R101). -/
def execRdHighcutHz (s : State) : Result := .next (give s.par.highcutHz s)

/-- `RD.FILTER_EN` (R101). -/
def execRdFilterEn (s : State) : Result := .next (give s.par.filterEn s)

/-- `RD.EQ_EN` (R101). -/
def execRdEqEn (s : State) : Result := .next (give s.par.eqEn s)

/-- `RD.EQ_CURVE` (R101). -/
def execRdEqCurve (s : State) : Result := .next (give s.par.eqCurve s)

/-- `RD.EQ_STRENGTH_PCT` (R101). -/
def execRdEqStrengthPct (s : State) : Result := .next (give s.par.eqStrengthPct s)

/-- `RD.EQ_REACTION_MS` (R101). -/
def execRdEqReactionMs (s : State) : Result := .next (give s.par.eqReactionMs s)

end Sys2Proof.Machine
end

