-- ==== Sys2Proof/Machine/Flags.lean ====
section
/-!
DEFINITION. The flag words: `STATUS` as it reads (40_system.md R83) and as a write clears it (R79), `ERR_CODE`
(10_state.md R24, 60_exceptions.md R170), and the interrupt output (R175).
-/

namespace Sys2Proof.Machine

/-- The word `STATUS` reads: `{24'b0, LM_TARGET_VALID, PREPARED, SPEC_NEW, PNAN, NONFINITE, ERR, DONE, BUSY}` (R83). -/
def statusWord (s : State) : Word :=
  0#24 ++ BitVec.ofBool s.lm.targetValid ++ BitVec.ofBool s.prepared ++ BitVec.ofBool s.specNew ++
    BitVec.ofBool s.pnan ++ BitVec.ofBool s.nonfinite ++ BitVec.ofBool s.err ++ BitVec.ofBool s.done ++
    BitVec.ofBool (busy s)

/-- The code of an error (R170). -/
def ErrKind.code : ErrKind → BitVec 8
  | .none => 0x00#8
  | .badCmd => 0x01#8
  | .notPrepared => 0x02#8
  | .badConfig => 0x03#8
  | .badCount => 0x04#8
  | .busyCmd => 0x05#8
  | .busyRam => 0x06#8
  | .badAccess => 0x07#8
  | .badAddr => 0x08#8

/-- The word `ERR_CODE` reads: `CODE` in bits 7:0, `OVF` in bit 8 (R24). -/
def errCodeWord (s : State) : Word := 0#23 ++ BitVec.ofBool s.errOvf ++ s.errCode.code

/-- Write-1-to-clear of `STATUS` (R79). -/
def clearStatus (w : Word) (s : State) : State :=
  let s1 := if w.getLsbD 2 then clearError s else s
  { s1 with
    done := s.done && !w.getLsbD 1
    nonfinite := s.nonfinite && !w.getLsbD 3
    pnan := s.pnan && !w.getLsbD 4
    specNew := s.specNew && !w.getLsbD 5 }

/-- The implemented bits of `IRQ_EN` (R28, R80). -/
def irqMask : Word := 0x00000026#32

/-- The interrupt output (R175). -/
def irq (s : State) : Bool :=
  (s.done && s.irqEn.getLsbD 1) || (s.err && s.irqEn.getLsbD 2) || (s.specNew && s.irqEn.getLsbD 5)

end Sys2Proof.Machine
end

