-- ==== Sys2Proof/Machine/System.lean ====
section
/-!
DEFINITION. Command issue, the system commands, and the control registers (40_system.md): NOP, PREPARE,
RESET_ALL, WR.CMD, the control-register writes and reads.
-/

namespace Sys2Proof.Machine

/-! ## System commands (R76 to R78) -/

/-- NOP's rule: nothing (R76). -/
def bodyNop : Body := fun _ s => .next s

/-- Every unit's `*_RESET_STATE()` (R77, R78). -/
def resetUnits (s : State) : State :=
  lmResetState (firResetState 1 (firResetState 0 (spaResetState (peqResetState (wsResetState s)))))

/-- Every unit's `*_DERIVE()`, with the snapshot's cutoffs (R77). -/
def deriveUnits (par : Params) (s : State) : State :=
  lmDerive (firDerive par 1 (firDerive par 0 (spaDerive (eqDerive (wsDerive s)))))

/-- PREPARE's rule (R77). The configuration is the one at acceptance (R54; log 8). -/
def bodyPrepare : Body := fun r s =>
  .next { deriveUnits r.snap.par (resetUnits { s with prep := r.cfg }) with prepared := true }

/-- RESET_ALL's rule (R78). -/
def bodyResetAll : Body := fun _ s => .next (resetUnits s)

/-- `NOP` (R76). -/
def execNop (s : State) : Result := issue (cmdWord 0x00 0 0) none bodyNop s

/-- `PREPARE` (R77). -/
def execPrepare (s : State) : Result := issue (cmdWord 0x01 0 0) (checkConfig s) bodyPrepare s

/-- `RESET_ALL` (R78). -/
def execResetAll (s : State) : Result := issue (cmdWord 0x02 0 0) none bodyResetAll s

/-! ## The CMD write and the sequencer (R74, R75) -/

/-- The checks of R74 after `BAD_CMD`, by command. -/
def commandCheck (i : Instr) (s : State) : Option ErrKind :=
  match i with
  | .prepare => checkConfig s
  | .spaProduce ns => checkBlock ns s
  | .firProcess _ ns => checkBlock ns s
  | .peqProcess ns => checkBlock ns s
  | .wsProcess ns => checkBlock ns s
  | .wsCurve => checkPrepared s
  | .lmAnalyzeIn ns => checkBlock ns s
  | .lmAnalyzeOut ns => checkBlock ns s
  | .lmApply ns => checkBlock ns s
  | .chainProcess ns => checkBlock ns s
  | _ => none

/-- The rule of a command (R65); a bus operation is no command and has none. -/
def commandBody (i : Instr) : Body :=
  match i with
  | .nop => bodyNop
  | .prepare => bodyPrepare
  | .resetAll => bodyResetAll
  | .spaReset => bodySpaReset
  | .spaProduce ns => bodySpaProduce ns
  | .firReset inst => bodyFirReset inst
  | .firProcess inst ns => bodyFirProcess inst ns
  | .peqReset => bodyPeqReset
  | .peqProcess ns => bodyPeqProcess ns
  | .wsReset => bodyWsReset
  | .wsProcess ns => bodyWsProcess ns
  | .wsCurve => bodyWsCurve
  | .lmReset => bodyLmReset
  | .lmAnalyzeIn ns => bodyLmAnalyzeIn ns
  | .lmAnalyzeOut ns => bodyLmAnalyzeOut ns
  | .lmApply ns => bodyLmApply ns
  | .chainProcess ns => bodyChainProcess ns
  | _ => fun _ s => .next s

/-- `WR.CMD`: the bus transaction alone, checks and acceptance; the sequencer does the rest (R74; log 10). -/
def execWrCmd (w : Word) (s : State) : Result :=
  if busy s then .next (raise .busyCmd w s)
  else
    match decodeCommand w with
    | .error _ => .next (raise .badCmd w s)
    | .ok i =>
      match commandCheck i s with
      | some k => .next (raise k w s)
      | none => .next (accept w s)

/-- The running command with its rule performed (log 7). -/
def markWorked (r : Running) (s : State) : State := { s with run := some { r with worked := true } }

/-- The sequencer's next stage: the rule of the running command, then its completion; nothing while idle
(R74, R75, R185; log 7). -/
def sequencerStage (s : State) : Result :=
  match s.run with
  | none => .next s
  | some r =>
    if r.worked then .next (complete s)
    else
      match decodeCommand r.cur with
      | .ok i => andThen (commandBody i r s) (fun t => .next (markWorked r t))
      | .error _ => .next (markWorked r s)

/-! ## Control-register writes (R79 to R82) -/

/-- `WR.STATUS` (R79). -/
def execWrStatus (w : Word) (s : State) : Result := .next (clearStatus w s)

/-- `WR.IRQ_EN` (R80). -/
def execWrIrqEn (w : Word) (s : State) : Result := .next { s with irqEn := w &&& irqMask }

/-- `WR.ARG` (R81). -/
def execWrArg (w : Word) (s : State) : Result := .next { s with arg := w }

/-- `WR.CFG_FS` (R82). -/
def execWrCfgFs (w : Word) (s : State) : Result := .next { s with cfg := { s.cfg with fs := w } }

/-- `WR.CFG_MAXBLOCK` (R82). -/
def execWrCfgMaxblock (w : Word) (s : State) : Result := .next { s with cfg := { s.cfg with maxblock := w } }

/-- `WR.CFG_CHANNELS` (R82). -/
def execWrCfgChannels (w : Word) (s : State) : Result := .next { s with cfg := { s.cfg with channels := w } }

/-! ## Control-register reads (R83) -/

/-- `RD.ID` (R83). -/
def execRdId (s : State) : Result := .next (give Config.idWord s)

/-- `RD.VERSION` (R83). -/
def execRdVersion (s : State) : Result := .next (give Config.versionWord s)

/-- `RD.CMD` (R83). -/
def execRdCmd (s : State) : Result := .next (give 0 s)

/-- `RD.STATUS` (R83). -/
def execRdStatus (s : State) : Result := .next (give (statusWord s) s)

/-- `RD.ERR_CODE` (R83). -/
def execRdErrCode (s : State) : Result := .next (give (errCodeWord s) s)

/-- `RD.ERR_INFO` (R83). -/
def execRdErrInfo (s : State) : Result := .next (give s.errInfo s)

/-- `RD.IRQ_EN` (R83). -/
def execRdIrqEn (s : State) : Result := .next (give s.irqEn s)

/-- `RD.ARG` (R83). -/
def execRdArg (s : State) : Result := .next (give s.arg s)

/-- `RD.RESULT` (R83). -/
def execRdResult (s : State) : Result := .next (give s.result s)

/-- `RD.CFG_FS` (R83). -/
def execRdCfgFs (s : State) : Result := .next (give s.cfg.fs s)

/-- `RD.CFG_MAXBLOCK` (R83). -/
def execRdCfgMaxblock (s : State) : Result := .next (give s.cfg.maxblock s)

/-- `RD.CFG_CHANNELS` (R83). -/
def execRdCfgChannels (s : State) : Result := .next (give s.cfg.channels s)

/-- `RD.PREP_FS` (R83). -/
def execRdPrepFs (s : State) : Result := .next (give s.prep.fs s)

/-- `RD.PREP_MAXBLOCK` (R83). -/
def execRdPrepMaxblock (s : State) : Result := .next (give s.prep.maxblock s)

/-- `RD.PREP_CHANNELS` (R83). -/
def execRdPrepChannels (s : State) : Result := .next (give s.prep.channels s)

end Sys2Proof.Machine
end

