-- ==== Sys2Proof/Machine/Dispatch.lean ====
section
/-!
DEFINITION. The dispatch of every instruction to its meaning, one arm per constructor of Instr.
-/

namespace Sys2Proof.Machine

def exec (i : Instr) (s : State) : Host.Outcome State Fault Refusal :=
  match i with
  | .nop => Sys2Proof.Machine.execNop s
  | .prepare => Sys2Proof.Machine.execPrepare s
  | .resetAll => Sys2Proof.Machine.execResetAll s
  | .spaReset => Sys2Proof.Machine.execSpaReset s
  | .spaProduce ns => Sys2Proof.Machine.execSpaProduce ns s
  | .firReset inst => Sys2Proof.Machine.execFirReset inst s
  | .firProcess inst ns => Sys2Proof.Machine.execFirProcess inst ns s
  | .peqReset => Sys2Proof.Machine.execPeqReset s
  | .peqProcess ns => Sys2Proof.Machine.execPeqProcess ns s
  | .wsReset => Sys2Proof.Machine.execWsReset s
  | .wsProcess ns => Sys2Proof.Machine.execWsProcess ns s
  | .wsCurve => Sys2Proof.Machine.execWsCurve s
  | .lmReset => Sys2Proof.Machine.execLmReset s
  | .lmAnalyzeIn ns => Sys2Proof.Machine.execLmAnalyzeIn ns s
  | .lmAnalyzeOut ns => Sys2Proof.Machine.execLmAnalyzeOut ns s
  | .lmApply ns => Sys2Proof.Machine.execLmApply ns s
  | .chainProcess ns => Sys2Proof.Machine.execChainProcess ns s
  | .rdId => Sys2Proof.Machine.execRdId s
  | .rdVersion => Sys2Proof.Machine.execRdVersion s
  | .rdCmd => Sys2Proof.Machine.execRdCmd s
  | .rdStatus => Sys2Proof.Machine.execRdStatus s
  | .rdErrCode => Sys2Proof.Machine.execRdErrCode s
  | .rdErrInfo => Sys2Proof.Machine.execRdErrInfo s
  | .rdIrqEn => Sys2Proof.Machine.execRdIrqEn s
  | .rdArg => Sys2Proof.Machine.execRdArg s
  | .rdResult => Sys2Proof.Machine.execRdResult s
  | .rdCfgFs => Sys2Proof.Machine.execRdCfgFs s
  | .rdCfgMaxblock => Sys2Proof.Machine.execRdCfgMaxblock s
  | .rdCfgChannels => Sys2Proof.Machine.execRdCfgChannels s
  | .rdPrepFs => Sys2Proof.Machine.execRdPrepFs s
  | .rdPrepMaxblock => Sys2Proof.Machine.execRdPrepMaxblock s
  | .rdPrepChannels => Sys2Proof.Machine.execRdPrepChannels s
  | .wrCmd w => Sys2Proof.Machine.execWrCmd w s
  | .wrStatus w => Sys2Proof.Machine.execWrStatus w s
  | .wrIrqEn w => Sys2Proof.Machine.execWrIrqEn w s
  | .wrArg w => Sys2Proof.Machine.execWrArg w s
  | .wrCfgFs w => Sys2Proof.Machine.execWrCfgFs w s
  | .wrCfgMaxblock w => Sys2Proof.Machine.execWrCfgMaxblock w s
  | .wrCfgChannels w => Sys2Proof.Machine.execWrCfgChannels w s
  | .wrInGainDb w => Sys2Proof.Machine.execWrInGainDb w s
  | .wrOutGainDb w => Sys2Proof.Machine.execWrOutGainDb w s
  | .wrDriveDb w => Sys2Proof.Machine.execWrDriveDb w s
  | .wrMixPct w => Sys2Proof.Machine.execWrMixPct w s
  | .wrAlgorithm w => Sys2Proof.Machine.execWrAlgorithm w s
  | .wrSolo w => Sys2Proof.Machine.execWrSolo w s
  | .wrLowcutHz w => Sys2Proof.Machine.execWrLowcutHz w s
  | .wrHighcutHz w => Sys2Proof.Machine.execWrHighcutHz w s
  | .wrFilterEn w => Sys2Proof.Machine.execWrFilterEn w s
  | .wrEqEn w => Sys2Proof.Machine.execWrEqEn w s
  | .wrEqCurve w => Sys2Proof.Machine.execWrEqCurve w s
  | .wrEqStrengthPct w => Sys2Proof.Machine.execWrEqStrengthPct w s
  | .wrEqReactionMs w => Sys2Proof.Machine.execWrEqReactionMs w s
  | .rdInGainDb => Sys2Proof.Machine.execRdInGainDb s
  | .rdOutGainDb => Sys2Proof.Machine.execRdOutGainDb s
  | .rdDriveDb => Sys2Proof.Machine.execRdDriveDb s
  | .rdMixPct => Sys2Proof.Machine.execRdMixPct s
  | .rdAlgorithm => Sys2Proof.Machine.execRdAlgorithm s
  | .rdSolo => Sys2Proof.Machine.execRdSolo s
  | .rdLowcutHz => Sys2Proof.Machine.execRdLowcutHz s
  | .rdHighcutHz => Sys2Proof.Machine.execRdHighcutHz s
  | .rdFilterEn => Sys2Proof.Machine.execRdFilterEn s
  | .rdEqEn => Sys2Proof.Machine.execRdEqEn s
  | .rdEqCurve => Sys2Proof.Machine.execRdEqCurve s
  | .rdEqStrengthPct => Sys2Proof.Machine.execRdEqStrengthPct s
  | .rdEqReactionMs => Sys2Proof.Machine.execRdEqReactionMs s
  | .rdWsInRms slot => Sys2Proof.Machine.execRdWsInRms slot s
  | .rdWsInPeak slot => Sys2Proof.Machine.execRdWsInPeak slot s
  | .rdWsOutRms slot => Sys2Proof.Machine.execRdWsOutRms slot s
  | .rdWsOutPeak slot => Sys2Proof.Machine.execRdWsOutPeak slot s
  | .rdEqGain band => Sys2Proof.Machine.execRdEqGain band s
  | .rdEqTarget band => Sys2Proof.Machine.execRdEqTarget band s
  | .rdEqSpectrum band => Sys2Proof.Machine.execRdEqSpectrum band s
  | .rdLmCompDb => Sys2Proof.Machine.execRdLmCompDb s
  | .rdLmInLoud => Sys2Proof.Machine.execRdLmInLoud s
  | .rdLmOutLoud => Sys2Proof.Machine.execRdLmOutLoud s
  | .rdLmTarget => Sys2Proof.Machine.execRdLmTarget s
  | .rdLmGainLin => Sys2Proof.Machine.execRdLmGainLin s
  | .rdSpaWpos => Sys2Proof.Machine.execRdSpaWpos s
  | .rdSpaCount => Sys2Proof.Machine.execRdSpaCount s
  | .rdSpec k => Sys2Proof.Machine.execRdSpec k s
  | .rdBinfreq k => Sys2Proof.Machine.execRdBinfreq k s
  | .rdSample c k => Sys2Proof.Machine.execRdSample c k s
  | .wrSample c k w => Sys2Proof.Machine.execWrSample c k w s

end Sys2Proof.Machine
end

