-- ==== Sys2Proof/Machine/Step.lean ====
section
/-!
DEFINITION. One step of the machine: the next event of the host, or, where none is pending, the sequencer's
next stage (20_memory.md R52, R53; log 7, log 9).
-/

namespace Sys2Proof.Machine

/-- An access delivered: decoded, and performed or rejected (R64, R67, R174). -/
def deliver (a : Access) (s : State) : Host.Outcome State Fault Refusal :=
  match decode a with
  | .ok i => exec i s
  | .error r => .next (rejectAccess r a s)

/-- One step. With nothing pending and no command running, nothing changes (R185). -/
def step (s : State) : Host.Outcome State Fault Refusal :=
  match s.inbox with
  | [] => sequencerStage s
  | .access a :: rest => deliver a { s with inbox := rest }
  | .sequencer :: rest => sequencerStage { s with inbox := rest }
  | .hardReset :: rest => .next (hardReset { s with inbox := rest })

/-- The row's access presented next (log 9, log 10, log 21). -/
def State.withFetchWord (s : State) (nbits w : Nat) : State :=
  { s with inbox := .access (tableAccess nbits w) :: s.inbox }

end Sys2Proof.Machine
end

