-- ==== Sys2Proof/MaskTable.lean ====
section
/-!
DEFINITION. The opcode table as the spec prints it: a pattern and a mask for each row (30_encoding.md R61, R65,
R66). Decode.lean reads fields and ranges; the statements compare the two. Nothing in the machine uses this file.
-/

namespace Sys2Proof.MaskTable

/-- A row: a word `x` matches where `x &&& mask = pattern`; `build` reads the operands off the word. -/
structure Row (n : Nat) where
  pattern : BitVec n
  mask : BitVec n
  build : BitVec n → Word → Instr

/-- The instruction of the first row that matches (R61, R64). -/
def find {n : Nat} (rows : List (Row n)) (x : BitVec n) (data : Word) : Option Instr :=
  (rows.find? (fun r => x &&& r.mask == r.pattern)).map (fun r => r.build x data)

/-- `INST = w[8]` (R60). -/
def inst (w : BitVec 32) : Nat := (w.extractLsb' 8 1).toNat
/-- `NS = w[31:16]` (R60). -/
def ns (w : BitVec 32) : Nat := (w.extractLsb' 16 16).toNat
/-- Slot or band, `addr[4:2]` (R160, R161). -/
def slot (k : BitVec 19) : Nat := (k.extractLsb' 2 3).toNat
/-- Bin, `addr[11:2]` (R164, R165). -/
def bin (k : BitVec 19) : Nat := (k.extractLsb' 2 10).toNat
/-- Channel slot, `addr[14]` (R166). -/
def channel (k : BitVec 19) : Nat := (k.extractLsb' 14 1).toNat
/-- Sample index, `addr[13:2]` (R166). -/
def index (k : BitVec 19) : Nat := (k.extractLsb' 2 12).toNat

/-- The 17 command rows (R65 with the masks of R61). -/
def commands : List (Row 32) :=
  [⟨0x00000000#32, 0xFFFFFFFF#32, fun _ _ => .nop⟩,
   ⟨0x00000001#32, 0xFFFFFFFF#32, fun _ _ => .prepare⟩,
   ⟨0x00000002#32, 0xFFFFFFFF#32, fun _ _ => .resetAll⟩,
   ⟨0x00000010#32, 0xFFFFFFFF#32, fun _ _ => .spaReset⟩,
   ⟨0x00000011#32, 0x0000FFFF#32, fun w _ => .spaProduce (ns w)⟩,
   ⟨0x00000020#32, 0xFFFFFEFF#32, fun w _ => .firReset (inst w)⟩,
   ⟨0x00000021#32, 0x0000FEFF#32, fun w _ => .firProcess (inst w) (ns w)⟩,
   ⟨0x00000030#32, 0xFFFFFFFF#32, fun _ _ => .peqReset⟩,
   ⟨0x00000031#32, 0x0000FFFF#32, fun w _ => .peqProcess (ns w)⟩,
   ⟨0x00000040#32, 0xFFFFFFFF#32, fun _ _ => .wsReset⟩,
   ⟨0x00000041#32, 0x0000FFFF#32, fun w _ => .wsProcess (ns w)⟩,
   ⟨0x00000042#32, 0xFFFFFFFF#32, fun _ _ => .wsCurve⟩,
   ⟨0x00000050#32, 0xFFFFFFFF#32, fun _ _ => .lmReset⟩,
   ⟨0x00000051#32, 0x0000FFFF#32, fun w _ => .lmAnalyzeIn (ns w)⟩,
   ⟨0x00000052#32, 0x0000FFFF#32, fun w _ => .lmAnalyzeOut (ns w)⟩,
   ⟨0x00000053#32, 0x0000FFFF#32, fun w _ => .lmApply (ns w)⟩,
   ⟨0x00000060#32, 0x0000FFFF#32, fun w _ => .chainProcess (ns w)⟩]

/-- Reads of the control registers (R66). -/
def controlReads : List (Row 19) :=
  [⟨0x00000#19, 0x7FFFF#19, fun _ _ => .rdId⟩,
   ⟨0x00004#19, 0x7FFFF#19, fun _ _ => .rdVersion⟩,
   ⟨0x00008#19, 0x7FFFF#19, fun _ _ => .rdCmd⟩,
   ⟨0x0000C#19, 0x7FFFF#19, fun _ _ => .rdStatus⟩,
   ⟨0x00010#19, 0x7FFFF#19, fun _ _ => .rdErrCode⟩,
   ⟨0x00014#19, 0x7FFFF#19, fun _ _ => .rdErrInfo⟩,
   ⟨0x00018#19, 0x7FFFF#19, fun _ _ => .rdIrqEn⟩,
   ⟨0x0001C#19, 0x7FFFF#19, fun _ _ => .rdArg⟩,
   ⟨0x00020#19, 0x7FFFF#19, fun _ _ => .rdResult⟩,
   ⟨0x00030#19, 0x7FFFF#19, fun _ _ => .rdCfgFs⟩,
   ⟨0x00034#19, 0x7FFFF#19, fun _ _ => .rdCfgMaxblock⟩,
   ⟨0x00038#19, 0x7FFFF#19, fun _ _ => .rdCfgChannels⟩,
   ⟨0x00040#19, 0x7FFFF#19, fun _ _ => .rdPrepFs⟩,
   ⟨0x00044#19, 0x7FFFF#19, fun _ _ => .rdPrepMaxblock⟩,
   ⟨0x00048#19, 0x7FFFF#19, fun _ _ => .rdPrepChannels⟩]

/-- Writes of the control registers (R66). -/
def controlWrites : List (Row 19) :=
  [⟨0x40008#19, 0x7FFFF#19, fun _ d => .wrCmd d⟩,
   ⟨0x4000C#19, 0x7FFFF#19, fun _ d => .wrStatus d⟩,
   ⟨0x40018#19, 0x7FFFF#19, fun _ d => .wrIrqEn d⟩,
   ⟨0x4001C#19, 0x7FFFF#19, fun _ d => .wrArg d⟩,
   ⟨0x40030#19, 0x7FFFF#19, fun _ d => .wrCfgFs d⟩,
   ⟨0x40034#19, 0x7FFFF#19, fun _ d => .wrCfgMaxblock d⟩,
   ⟨0x40038#19, 0x7FFFF#19, fun _ d => .wrCfgChannels d⟩]

/-- Writes of the parameter registers (R66). -/
def parameterWrites : List (Row 19) :=
  [⟨0x40100#19, 0x7FFFF#19, fun _ d => .wrInGainDb d⟩,
   ⟨0x40104#19, 0x7FFFF#19, fun _ d => .wrOutGainDb d⟩,
   ⟨0x40108#19, 0x7FFFF#19, fun _ d => .wrDriveDb d⟩,
   ⟨0x4010C#19, 0x7FFFF#19, fun _ d => .wrMixPct d⟩,
   ⟨0x40110#19, 0x7FFFF#19, fun _ d => .wrAlgorithm d⟩,
   ⟨0x40114#19, 0x7FFFF#19, fun _ d => .wrSolo d⟩,
   ⟨0x40118#19, 0x7FFFF#19, fun _ d => .wrLowcutHz d⟩,
   ⟨0x4011C#19, 0x7FFFF#19, fun _ d => .wrHighcutHz d⟩,
   ⟨0x40120#19, 0x7FFFF#19, fun _ d => .wrFilterEn d⟩,
   ⟨0x40124#19, 0x7FFFF#19, fun _ d => .wrEqEn d⟩,
   ⟨0x40128#19, 0x7FFFF#19, fun _ d => .wrEqCurve d⟩,
   ⟨0x4012C#19, 0x7FFFF#19, fun _ d => .wrEqStrengthPct d⟩,
   ⟨0x40130#19, 0x7FFFF#19, fun _ d => .wrEqReactionMs d⟩]

/-- Reads of the parameter registers (R66). -/
def parameterReads : List (Row 19) :=
  [⟨0x00100#19, 0x7FFFF#19, fun _ _ => .rdInGainDb⟩,
   ⟨0x00104#19, 0x7FFFF#19, fun _ _ => .rdOutGainDb⟩,
   ⟨0x00108#19, 0x7FFFF#19, fun _ _ => .rdDriveDb⟩,
   ⟨0x0010C#19, 0x7FFFF#19, fun _ _ => .rdMixPct⟩,
   ⟨0x00110#19, 0x7FFFF#19, fun _ _ => .rdAlgorithm⟩,
   ⟨0x00114#19, 0x7FFFF#19, fun _ _ => .rdSolo⟩,
   ⟨0x00118#19, 0x7FFFF#19, fun _ _ => .rdLowcutHz⟩,
   ⟨0x0011C#19, 0x7FFFF#19, fun _ _ => .rdHighcutHz⟩,
   ⟨0x00120#19, 0x7FFFF#19, fun _ _ => .rdFilterEn⟩,
   ⟨0x00124#19, 0x7FFFF#19, fun _ _ => .rdEqEn⟩,
   ⟨0x00128#19, 0x7FFFF#19, fun _ _ => .rdEqCurve⟩,
   ⟨0x0012C#19, 0x7FFFF#19, fun _ _ => .rdEqStrengthPct⟩,
   ⟨0x00130#19, 0x7FFFF#19, fun _ _ => .rdEqReactionMs⟩]

/-- Reads of the monitor registers (R66). -/
def monitorReads : List (Row 19) :=
  [⟨0x00200#19, 0x7FFE3#19, fun k _ => .rdWsInRms (slot k)⟩,
   ⟨0x00220#19, 0x7FFE3#19, fun k _ => .rdWsInPeak (slot k)⟩,
   ⟨0x00240#19, 0x7FFE3#19, fun k _ => .rdWsOutRms (slot k)⟩,
   ⟨0x00260#19, 0x7FFE3#19, fun k _ => .rdWsOutPeak (slot k)⟩,
   ⟨0x00280#19, 0x7FFE3#19, fun k _ => .rdEqGain (slot k)⟩,
   ⟨0x002A0#19, 0x7FFE3#19, fun k _ => .rdEqTarget (slot k)⟩,
   ⟨0x002C0#19, 0x7FFE3#19, fun k _ => .rdEqSpectrum (slot k)⟩,
   ⟨0x002E0#19, 0x7FFFF#19, fun _ _ => .rdLmCompDb⟩,
   ⟨0x002E4#19, 0x7FFFF#19, fun _ _ => .rdLmInLoud⟩,
   ⟨0x002E8#19, 0x7FFFF#19, fun _ _ => .rdLmOutLoud⟩,
   ⟨0x002EC#19, 0x7FFFF#19, fun _ _ => .rdLmTarget⟩,
   ⟨0x002F0#19, 0x7FFFF#19, fun _ _ => .rdLmGainLin⟩,
   ⟨0x002F4#19, 0x7FFFF#19, fun _ _ => .rdSpaWpos⟩,
   ⟨0x002F8#19, 0x7FFFF#19, fun _ _ => .rdSpaCount⟩]

/-- The RAM windows (R66). -/
def windows : List (Row 19) :=
  [⟨0x08000#19, 0x7F003#19, fun k _ => .rdSpec (bin k)⟩,
   ⟨0x09000#19, 0x7F003#19, fun k _ => .rdBinfreq (bin k)⟩,
   ⟨0x10000#19, 0x78003#19, fun k _ => .rdSample (channel k) (index k)⟩,
   ⟨0x50000#19, 0x78003#19, fun k d => .wrSample (channel k) (index k) d⟩]

/-- The 66 bus rows (R66). -/
def bus : List (Row 19) :=
  controlReads ++ controlWrites ++ parameterWrites ++ parameterReads ++ monitorReads ++ windows

end Sys2Proof.MaskTable
end

