-- ==== Sys2Proof/Safety.lean ====
section
/-!
DEFINITION. What a legal state is, when a command is ready to run, and what it leaves alone: the terms the
statements are written in. A safe step is one that answers a next state
(93_implementation_defined.md section 3: no behaviour is a fault or a stuck state).
-/

namespace Sys2Proof.Safety

open Sys2Proof Sys2Proof.Machine

/-! ## Commands and when they run -/

/-- The word that issues a command; a bus operation has none (R59). -/
def commandWord (i : Instr) : Option Word :=
  match encode i with
  | .command w => some w
  | .bus _ => none

/-- The block length of a block command (R60). -/
def blockLength : Instr → Option Nat
  | .spaProduce ns | .firProcess _ ns | .peqProcess ns | .wsProcess ns | .lmAnalyzeIn ns
  | .lmAnalyzeOut ns | .lmApply ns | .chainProcess ns => some ns
  | _ => none

/-- No command runs (R38). -/
def Idle (s : State) : Prop := s.run = none

/-- A block command of length `ns` passes the checks of R74, and the prepared values are legal (R77). -/
structure Ready (ns : Nat) (s : State) : Prop where
  idle : s.run = none
  prepared : s.prepared = true
  config : cfgOk s.prep = true
  atLeastOne : 1 ≤ ns
  atMostMax : ns ≤ s.prep.maxblock.toNat

/-- Every sample the block command can read is finite (R172). -/
def FiniteBlock (ns : Nat) (s : State) : Prop :=
  ∀ c, c < chans s → ∀ i, i < ns → Fp.isFinite (sampleAt s c i) = true

/-- Byte address `a` belongs to a sample of the block, `c < C`, `i < NS` (R49). -/
def BlockByte (channels ns a : Nat) : Prop :=
  ∃ c, c < channels ∧ ∃ i, i < ns ∧ ∃ k, k < 4 ∧ a = saddr c i + k

/-- The step answers a next state. -/
def SafeStep (s : State) : Prop := ∃ t, step s = .next t

/-- `f` applied to `xs 0 .. xs (n-1)` in order, from state `a` to state `b`, its outputs `ys`: the sample loop of a
channel (R9, R104, R126, R143). -/
def Runs {σ : Type} (f : σ → F32 → σ × F32) (n : Nat) (xs ys : Nat → F32) (a b : σ) : Prop :=
  ∃ st : Nat → σ, st 0 = a ∧ st n = b ∧ ∀ i, i < n → f (st i) (xs i) = (st (i + 1), ys i)

/-! ## What a command leaves alone -/

/-- The host-written registers, the error registers, the configuration and the host's side of the machine are as
they were; `BUSY`, `DONE`, `NONFINITE` and the free-value count are spoken of apart. -/
structure SameControl (s t : State) : Prop where
  err : t.err = s.err
  errCode : t.errCode = s.errCode
  errOvf : t.errOvf = s.errOvf
  errInfo : t.errInfo = s.errInfo
  pnan : t.pnan = s.pnan
  irqEn : t.irqEn = s.irqEn
  arg : t.arg = s.arg
  cfg : t.cfg = s.cfg
  par : t.par = s.par
  rdata : t.rdata = s.rdata
  inbox : t.inbox = s.inbox

/-- `PREP_*` and `STATUS.PREPARED` are as they were. -/
structure SamePrep (s t : State) : Prop where
  prep : t.prep = s.prep
  prepared : t.prepared = s.prepared

/-- No byte of sample RAM outside the block has changed (R49). -/
def SameOutside (ns : Nat) (s t : State) : Prop :=
  ∀ a, ¬ BlockByte (chans s) ns a → t.mem.read a = s.mem.read a

/-- The command has completed, and its completion says so (R75). -/
structure Completed (t : State) : Prop where
  idle : t.run = none
  done : t.done = true

/-! ## Legal states -/

/-- A float between two bounds, both included; false of a NaN. -/
def inRange (lo hi x : F32) : Bool := Fp.le lo x && Fp.le x hi

/-- The parameter registers hold values their write rules store (R31, R85 to R87, R94). -/
structure LegalParams (p : Params) : Prop where
  inGainDb : inRange Config.gainLo Config.gainHi p.inGainDb = true
  outGainDb : inRange Config.gainLo Config.gainHi p.outGainDb = true
  driveDb : inRange Config.driveLo Config.driveHi p.driveDb = true
  mixPct : inRange Config.pctLo Config.pctHi p.mixPct = true
  algorithm : p.algorithm.toNat ≤ Config.algMax
  solo : p.solo.toNat ≤ 1
  lowcutHz : Fp.isNaN p.lowcutHz = false
  highcutHz : Fp.isNaN p.highcutHz = false
  filterEn : p.filterEn.toNat ≤ 1
  eqEn : p.eqEn.toNat ≤ 1
  eqCurve : p.eqCurve.toNat ≤ Config.curveMax
  eqStrengthPct : inRange Config.pctLo Config.pctHi p.eqStrengthPct = true
  eqReactionMs : inRange Config.reactionLo Config.reactionHi p.eqReactionMs = true

/-- The running command is one that passed the checks of R74, and its snapshot is legal. -/
structure LegalRun (s : State) (r : Running) : Prop where
  snapshot : LegalParams r.snap.par
  accepted : r.worked = false → ∃ i, decodeCommand r.cur = .ok i ∧ commandCheck i { s with cfg := r.cfg } = none
  doneClear : s.done = false

/-- The states the spec allows. -/
structure Legal (s : State) : Prop where
  /-- Every parameter register is in its range (R31). -/
  params : LegalParams s.par
  /-- Only the implemented bits of `IRQ_EN` are set (R28). -/
  irqEn : s.irqEn &&& irqMask = s.irqEn
  /-- Without a latched error the error registers read 0 (R24, R25, R177). -/
  noError : s.err = false → s.errCode = .none ∧ s.errOvf = false ∧ s.errInfo = 0
  /-- A latched error has a code (R171). -/
  error : s.err = true → s.errCode ≠ .none
  /-- `PREPARED` means a configuration that passed the checks; before that the latches read 0 (R30, R77). -/
  prepared : s.prepared = true → cfgOk s.prep = true
  unprepared : s.prepared = false → s.prep = Cfg.reset
  /-- While no target is latched, `LM_TARGET` is 0 (R162). -/
  target : s.lm.targetValid = false → s.lm.target = 0
  /-- The running command passed its checks (R74). -/
  run : ∀ r, s.run = some r → LegalRun s r
  /-- Sample RAM has its canonical form and lists mapped addresses only (R43). -/
  memWf : s.mem.wf
  memMapped : s.mem.mapped

end Sys2Proof.Safety
end

