-- ==== Sys2Proof/WellFormed.lean ====
section
/-!
DEFINITION. Which operands the encoding admits (30_encoding.md R59, R60, R66): `INST` is one bit, `NS` sixteen,
a channel slot or band is 0..7, a bin 0..1023, a sample `c < C_MAX`, `i < N_MAX`. The range of `NS` that a
command accepts is no part of the encoding (R62).
-/

namespace Sys2Proof

/-- The instruction has an encoding. -/
def Instr.wellFormed : Instr → Bool
  | .spaProduce ns => decide (ns < 2 ^ 16)
  | .firReset inst => decide (inst < 2)
  | .firProcess inst ns => decide (inst < 2) && decide (ns < 2 ^ 16)
  | .peqProcess ns => decide (ns < 2 ^ 16)
  | .wsProcess ns => decide (ns < 2 ^ 16)
  | .lmAnalyzeIn ns => decide (ns < 2 ^ 16)
  | .lmAnalyzeOut ns => decide (ns < 2 ^ 16)
  | .lmApply ns => decide (ns < 2 ^ 16)
  | .chainProcess ns => decide (ns < 2 ^ 16)
  | .rdWsInRms slot => decide (slot < 8)
  | .rdWsInPeak slot => decide (slot < 8)
  | .rdWsOutRms slot => decide (slot < 8)
  | .rdWsOutPeak slot => decide (slot < 8)
  | .rdEqGain band => decide (band < 8)
  | .rdEqTarget band => decide (band < 8)
  | .rdEqSpectrum band => decide (band < 8)
  | .rdSpec k => decide (k < 1024)
  | .rdBinfreq k => decide (k < 1024)
  | .rdSample c i => decide (c < Config.cMax) && decide (i < Config.nMax)
  | .wrSample c i _ => decide (c < Config.cMax) && decide (i < Config.nMax)
  | .nop | .prepare | .resetAll | .spaReset | .peqReset | .wsReset
  | .wsCurve | .lmReset | .rdId | .rdVersion | .rdCmd | .rdStatus
  | .rdErrCode | .rdErrInfo | .rdIrqEn | .rdArg | .rdResult | .rdCfgFs
  | .rdCfgMaxblock | .rdCfgChannels | .rdPrepFs | .rdPrepMaxblock | .rdPrepChannels | .wrCmd _
  | .wrStatus _ | .wrIrqEn _ | .wrArg _ | .wrCfgFs _ | .wrCfgMaxblock _ | .wrCfgChannels _
  | .wrInGainDb _ | .wrOutGainDb _ | .wrDriveDb _ | .wrMixPct _ | .wrAlgorithm _ | .wrSolo _
  | .wrLowcutHz _ | .wrHighcutHz _ | .wrFilterEn _ | .wrEqEn _ | .wrEqCurve _ | .wrEqStrengthPct _
  | .wrEqReactionMs _ | .rdInGainDb | .rdOutGainDb | .rdDriveDb | .rdMixPct | .rdAlgorithm
  | .rdSolo | .rdLowcutHz | .rdHighcutHz | .rdFilterEn | .rdEqEn | .rdEqCurve
  | .rdEqStrengthPct | .rdEqReactionMs | .rdLmCompDb | .rdLmInLoud | .rdLmOutLoud | .rdLmTarget
  | .rdLmGainLin | .rdSpaWpos | .rdSpaCount => true

end Sys2Proof
end

