-- ==== Sys2Proof/Certificates/Slice0/Obligations.lean ====
section
/-!
DEFINITION. The statements for the provers. "The word a read returns" is the model's field `rdata` (log 11). `draws`
counts the model's free values (log 22).
-/

open Sys2Proof Sys2Proof.Machine Sys2Proof.Safety

/-! ## Encoding -/

/-- Every instruction the encoding admits is read back from its own access (R59, R64, R65, R66). -/
def Obligations.DecodeEncode : Prop :=
  ∀ i : Instr, i.wellFormed = true → decode (encode i) = .ok i

/-- Decoding of a command word is matching against the masks of R61, and no word matches two rows. -/
def Obligations.CommandsDecodeByMask : Prop :=
  (∀ w : Word, decodeCommand w =
    match MaskTable.find MaskTable.commands w 0 with
    | some i => .ok i
    | none => .error .badCmd) ∧
  MaskTable.commands.Pairwise (fun a b => ∀ w : Word, ¬(w &&& a.mask = a.pattern ∧ w &&& b.mask = b.pattern))

/-- Decoding of a transaction: size and alignment first, then the key against the masks of R66 (R64). -/
def Obligations.BusDecodesByMask : Prop :=
  ∀ t : Txn, decodeTxn t =
    if t.size ≠ 4 ∨ t.addr.extractLsb' 0 2 ≠ 0 then .error .badAccess
    else
      match MaskTable.find MaskTable.bus (BitVec.ofBool t.write ++ t.addr) t.wdata with
      | some i => .ok i
      | none => .error .badAddr

/-- The reserved words of R68: written to CMD while no command runs they latch BAD_CMD and do nothing else; every
other word names a command. -/
def Obligations.ReservedCommandWords : Prop :=
  ∀ w : Word,
    let op := w.extractLsb' 0 8
    let instBit := w.getLsbD 8
    let rsv := w.extractLsb' 9 7
    let ns := w.extractLsb' 16 16
    let assigned : List (BitVec 8) := [0x00, 0x01, 0x02, 0x10, 0x11, 0x20, 0x21, 0x30, 0x31, 0x40, 0x41, 0x42,
      0x50, 0x51, 0x52, 0x53, 0x60]
    let block : List (BitVec 8) := [0x11, 0x21, 0x31, 0x41, 0x51, 0x52, 0x53, 0x60]
    let reserved := op ∉ assigned ∨ rsv ≠ 0 ∨ (instBit = true ∧ op ≠ 0x20 ∧ op ≠ 0x21) ∨ (ns ≠ 0 ∧ op ∉ block)
    (reserved → ∀ s, Idle s → exec (.wrCmd w) s = .next (raise .badCmd w s)) ∧
    (¬ reserved → ∃ i, decodeCommand w = .ok i ∧ (commandWord i).isSome = true)

/-- Words and keys the spec writes out, one or more of each format and family (95_test_vectors.md E1 to E28). -/
def Obligations.WordsOfTheSpec : Prop :=
  decodeCommand 0x00000001#32 = .ok .prepare ∧
  decodeCommand 0x02000011#32 = .ok (.spaProduce 512) ∧
  decodeCommand 0x00000120#32 = .ok (.firReset 1) ∧
  decodeCommand 0x02000121#32 = .ok (.firProcess 1 512) ∧
  decodeCommand 0x00040031#32 = .ok (.peqProcess 4) ∧
  decodeCommand 0x00000042#32 = .ok .wsCurve ∧
  decodeCommand 0xFFFF0052#32 = .ok (.lmAnalyzeOut 65535) ∧
  decodeCommand 0x00400060#32 = .ok (.chainProcess 64) ∧
  decodeCommand 0x00000140#32 = .error .badCmd ∧
  decodeCommand 0x00000210#32 = .error .badCmd ∧
  decodeCommand 0x00010010#32 = .error .badCmd ∧
  decodeTxn ⟨true, 0x0000C#18, 4, 0x04#32⟩ = .ok (.wrStatus 0x04#32) ∧
  decodeTxn ⟨true, 0x14014#18, 4, 7#32⟩ = .ok (.wrSample 1 5 7#32) ∧
  decodeTxn ⟨false, 0x002DC#18, 4, 0⟩ = .ok (.rdEqSpectrum 7) ∧
  decodeTxn ⟨false, 0x08FFC#18, 4, 0⟩ = .ok (.rdSpec 1023) ∧
  decodeTxn ⟨true, 0x08000#18, 4, 0⟩ = .error .badAddr ∧
  decodeTxn ⟨false, 0x002FC#18, 4, 0⟩ = .error .badAddr ∧
  decodeTxn ⟨false, 0x00002#18, 4, 0⟩ = .error .badAccess

/-! ## The step -/

/-- A step runs the decoded instruction: the next pending access is taken off the inbox, decoded, and performed; an
access that is no instruction is rejected; the other events and the empty inbox do what log 7 and log 9 say. -/
def Obligations.StepRunsDecoded : Prop :=
  ∀ (s : State) (rest : List Event),
    (∀ a i, s.inbox = .access a :: rest → decode a = .ok i → step s = exec i { s with inbox := rest }) ∧
    (∀ a r, s.inbox = .access a :: rest → decode a = .error r →
      step s = .next (rejectAccess r a { s with inbox := rest })) ∧
    (s.inbox = .sequencer :: rest → step s = sequencerStage { s with inbox := rest }) ∧
    (s.inbox = .hardReset :: rest → step s = .next (hardReset { s with inbox := rest })) ∧
    (s.inbox = [] → step s = sequencerStage s) ∧
    (∀ nbits w i, decodeTableWord nbits w = some i → step (s.withFetchWord nbits w) = exec i s)

/-- While no command runs and the host does nothing, every cell keeps its value (R185). -/
def Obligations.IdleKeepsEverything : Prop :=
  ∀ s : State, s.run = none → s.inbox = [] → step s = .next s

/-- A command carried to its completion (R73's `RUN`) is its write to CMD followed by the sequencer's two stages, where
the block is idle; where a command runs it is the refused write alone. That there are two stages, the rule and the
completion, is the model's choice (log 7), and so is what the command row means (log 10). -/
def Obligations.RunIsWriteThenSequencer : Prop :=
  ∀ (i : Instr) (w : Word) (s : State), i.wellFormed = true → commandWord i = some w →
    exec i s =
      if s.run.isSome then exec (.wrCmd w) s
      else andThen (andThen (exec (.wrCmd w) s) sequencerStage) sequencerStage

/-- Every accepted command completes (R74, R75, R197): with no host action pending, two steps of any legal busy state
complete it. That it takes two is the model's choice (log 7); the spec gives no number. -/
def Obligations.AcceptedCommandCompletes : Prop :=
  ∀ (s : State) (r : Running), Legal s → s.run = some r → s.inbox = [] →
    ∃ t u, step s = .next t ∧ step t = .next u ∧ Completed u ∧ (r.worked = true → Completed t)

/-- The state after the hardware reset is legal. -/
def Obligations.LegalAtReset : Prop := Legal State.reset

/-- Every step from a legal state leads to a legal state. -/
def Obligations.LegalKept : Prop :=
  ∀ s t : State, Legal s → step s = .next t → Legal t

/-- No step from a legal state is a fault or a refusal: no behaviour of the block is one (93 section 3). -/
def Obligations.LegalStepsAreSafe : Prop :=
  ∀ s : State, Legal s → SafeStep s

/-! ## Errors, status events, reset -/

/-- `LATCH_ERROR` (R171): the first error is recorded whole; a later one sets `OVF` only. -/
def Obligations.FirstErrorKept : Prop :=
  ∀ (k : ErrKind) (info : Word) (s : State),
    raise k info s =
      { s with
        err := true
        errCode := if s.err then s.errCode else k
        errOvf := s.err
        errInfo := if s.err then s.errInfo else info }

/-- A CMD write: the six cases in their order, the first that holds deciding (R67), and what acceptance leaves (R74).
That PREPARE's `CFG_*` words are captured there too is log 8, and the mark that the rule is still to be performed is the
model's (log 7). -/
def Obligations.CommandWriteDecides : Prop :=
  ∀ (w : Word) (s : State),
    (s.run.isSome = true → exec (.wrCmd w) s = .next (raise .busyCmd w s)) ∧
    (s.run = none → decodeCommand w = .error .badCmd → exec (.wrCmd w) s = .next (raise .badCmd w s)) ∧
    (∀ i, s.run = none → decodeCommand w = .ok i →
      let needsPrepared := i = .wsCurve ∨ (blockLength i).isSome = true
      let badCount := ∃ ns, blockLength i = some ns ∧ ¬(1 ≤ ns ∧ ns ≤ s.prep.maxblock.toNat)
      (i = .prepare → cfgOk s.cfg = false → exec (.wrCmd w) s = .next (raise .badConfig w s)) ∧
      (needsPrepared → s.prepared = false → exec (.wrCmd w) s = .next (raise .notPrepared w s)) ∧
      (needsPrepared → s.prepared = true → badCount → exec (.wrCmd w) s = .next (raise .badCount w s)) ∧
      ((i = .prepare → cfgOk s.cfg = true) → (needsPrepared → s.prepared = true) → ¬badCount →
        exec (.wrCmd w) s =
          .next { s with run := some ⟨w, ⟨s.par, s.arg⟩, s.cfg, false⟩, done := false, nonf := false }))

/-- Where a command traps: issued while a command runs, unprepared, with a count out of range or a bad configuration,
it latches that error with its own word and does nothing else (R74, R174). -/
def Obligations.RefusedCommands : Prop :=
  ∀ (i : Instr) (w : Word) (s : State), commandWord i = some w →
    (s.run.isSome = true → exec i s = .next (raise .busyCmd w s)) ∧
    (s.run = none → i = .prepare → cfgOk s.cfg = false → exec i s = .next (raise .badConfig w s)) ∧
    (s.run = none → i = .wsCurve ∨ (blockLength i).isSome = true → s.prepared = false →
      exec i s = .next (raise .notPrepared w s)) ∧
    (∀ ns, s.run = none → s.prepared = true → blockLength i = some ns →
      ¬(1 ≤ ns ∧ ns ≤ s.prep.maxblock.toNat) → exec i s = .next (raise .badCount w s))

/-- Refused accesses (R45, R46): another width or a misaligned address is BAD_ACCESS, before every other check; an
aligned word access that no row of the map matches (unmapped, or a write to a read-only location) is BAD_ADDR. Neither
performs anything, a read returns 0, the byte address is recorded. A read of CMD is no error. -/
def Obligations.RefusedAccesses : Prop :=
  (∀ (t : Txn) (s : State) (rest : List Event), s.inbox = .access (.bus t) :: rest →
    let t0 : State := { s with inbox := rest, rdata := if t.write then s.rdata else 0 }
    (t.size ≠ 4 ∨ t.addr.extractLsb' 0 2 ≠ 0 → step s = .next (raise .badAccess (0#14 ++ t.addr) t0)) ∧
    (t.size = 4 → t.addr.extractLsb' 0 2 = 0 →
      MaskTable.find MaskTable.bus (BitVec.ofBool t.write ++ t.addr) t.wdata = none →
      step s = .next (raise .badAddr (0#14 ++ t.addr) t0))) ∧
  (∀ s : State, exec .rdCmd s = .next { s with rdata := 0 })

/-- While a command runs, sample RAM, spectrum RAM and bin-frequency RAM refuse every access: a read returns 0, a
write is lost, and BUSY_RAM is latched with the byte address (R53, R164 to R167). -/
def Obligations.BusyRamRefused : Prop :=
  ∀ (s : State) (r : Running), s.run = some r →
    (∀ k, exec (.rdSpec k) s =
      .next (raise .busyRam (BitVec.ofNat 32 (0x8000 + 4 * k)) { s with rdata := 0 })) ∧
    (∀ k, exec (.rdBinfreq k) s =
      .next (raise .busyRam (BitVec.ofNat 32 (0x9000 + 4 * k)) { s with rdata := 0 })) ∧
    (∀ c i, exec (.rdSample c i) s =
      .next (raise .busyRam (BitVec.ofNat 32 (0x10000 + 0x4000 * c + 4 * i)) { s with rdata := 0 })) ∧
    (∀ c i w, exec (.wrSample c i w) s =
      .next (raise .busyRam (BitVec.ofNat 32 (0x10000 + 0x4000 * c + 4 * i)) s))

/-- A latched error is cleared by a STATUS write with bit 2 set and by the hardware reset, and by nothing else: until
then its code and info stay, and `OVF` is not lost (R177). -/
def Obligations.ErrorsClearedOnlyByHost : Prop :=
  (∀ s t : State, s.err = true → step s = .next t →
    (t.err = true ∧ t.errCode = s.errCode ∧ t.errInfo = s.errInfo ∧ (s.errOvf = true → t.errOvf = true)) ∨
    (∃ rest, s.inbox = .hardReset :: rest) ∨
    (∃ w rest, s.inbox = .access (.bus ⟨true, 0x0000C#18, 4, w⟩) :: rest ∧ w.getLsbD 2 = true)) ∧
  (∀ (w : Word) (s : State), w.getLsbD 2 = true → ∃ t, exec (.wrStatus w) s = .next t ∧
    t.err = false ∧ t.errCode = .none ∧ t.errOvf = false ∧ t.errInfo = 0)

/-- `PREPARED` is cleared by the hardware reset only, and set by PREPARE only (R23). -/
def Obligations.PreparedChanges : Prop :=
  ∀ s t : State, step s = .next t → t.prepared ≠ s.prepared →
    (t.prepared = false ∧ ∃ rest, s.inbox = .hardReset :: rest) ∨
    (t.prepared = true ∧
      ((∃ rest, s.inbox = .access (.command 0x00000001#32) :: rest) ∨
       (∃ r, s.run = some r ∧ r.worked = false ∧ r.cur = 0x00000001#32)))

/-- The hardware reset: every cell at its reset value, whatever ran (R187). Sample RAM is unspecified anew (log 1). -/
def Obligations.HardwareReset : Prop :=
  ∀ (s : State) (rest : List Event), s.inbox = .hardReset :: rest →
    ∃ t, step s = .next t ∧ statusWord t = 0 ∧ t.errCode = .none ∧ t.errOvf = false ∧ t.errInfo = 0 ∧
      t.irqEn = 0 ∧ irq t = false ∧ t.arg = 0 ∧ t.result = 0 ∧ t.cfg = ⟨0, 0, 0⟩ ∧ t.prep = ⟨0, 0, 0⟩ ∧
      t.par = ⟨0, 0, 0, 0, 0, 0, 0x41A00000#32, 0x469C4000#32, 0, 0, 0, 0, 0x42C80000#32⟩ ∧
      t.ws = State.reset.ws ∧ t.peq = State.reset.peq ∧ t.spa = State.reset.spa ∧ t.fir = State.reset.fir ∧
      t.lm = State.reset.lm ∧ t.run = none ∧ t.inbox = rest ∧
      (∀ c, c < 2 → vget t.ws.chan c WsChan.zero = WsChan.zero) ∧
      (∀ b, b < 8 → vget t.peq.band b EqBand.reset = ⟨0, 0, 0, 0, ⟨0x3F800000#32, 0, 0, 0, 0⟩, 0⟩) ∧
      (∀ k, k < 1024 → vget t.spa.binfreq k 1 = 0) ∧ t.lm.gs = 0x3F800000#32

/-! ## System commands and control registers -/

/-- NOP (R76). -/
def Obligations.NopEffect : Prop :=
  (∀ s : State, s.run = none → exec .nop s = .next { s with done := true, nonf := false }) ∧
  (∀ (s : State) (r : Running), s.run = some r → exec .nop s = .next (raise .busyCmd 0x00000000#32 s)) ∧
  (∀ w : Word, w.extractLsb' 0 8 = 0 → w ≠ 0 → decodeCommand w = .error .badCmd)

/-- What PREPARE leaves where it is accepted: the latched configuration, every unit at its reset state, every derived
table computed from the latched sample rate, and nothing else changed (R77, R102, R117, R130, R141, R149). -/
def Obligations.PrepareEffect : Prop :=
  ∀ s : State, s.run = none → cfgOk s.cfg = true →
    ∃ t, exec .prepare s = .next t ∧ Completed t ∧ SameControl s t ∧
      t.prepared = true ∧ t.prep = s.cfg ∧ t.result = s.result ∧ t.mem = s.mem ∧ t.nonfinite = s.nonfinite ∧
      t.specNew = s.specNew ∧ t.draws = s.draws ∧
      (∀ c, c < 2 → vget t.ws.chan c WsChan.zero = WsChan.zero) ∧
      t.ws.aRms = tauCoeff Open.tauRms s.cfg.fs ∧ t.ws.aPk = tauCoeff Open.tauPeak s.cfg.fs ∧
      (∀ b, b < 8 → vget t.peq.band b EqBand.reset = ⟨0, 0, 0, 0, Biquad.kid, bandBin s.cfg.fs b⟩) ∧
      t.peq.st = PeqState.zeroSt ∧
      (∀ n, n < 2048 → vget t.spa.buf n 1 = 0 ∧ vget t.spa.win n 0 = hann n) ∧
      (∀ k, k < 1024 → vget t.spa.spec k 1 = 0 ∧ vget t.spa.binfreq k 0 = binFreq s.cfg.fs k) ∧
      t.spa.wpos = 0 ∧ t.spa.count = 0 ∧
      (∀ inst, inst < 2 → firInst t inst =
        ⟨highPass (lowCut s.par s.cfg.fs) s.cfg.fs, lowPass (highCut s.par s.cfg.fs) s.cfg.fs,
          lowCut s.par s.cfg.fs, highCut s.par s.cfg.fs, FirInst.zeroDl, FirInst.zeroDl⟩) ∧
      t.lm = { LmState.reset with
        kHp := kwHighPass Config.kwHpHz Config.kwHpQ s.cfg.fs
        kSh := kwShelf Config.kwShelfHz Config.kwShelfDb Config.kwShelfQ s.cfg.fs
        aAtt := tauCoeff Open.tauAtt s.cfg.fs
        aRel := tauCoeff Open.tauRel s.cfg.fs }

/-- A second PREPARE with the same configuration and parameters leaves exactly the state the first left (R77, R190). -/
def Obligations.PrepareTwice : Prop :=
  ∀ s t : State, s.run = none → cfgOk s.cfg = true → exec .prepare s = .next t → exec .prepare t = .next t

/-- The five RESET commands of single units: what each clears and that it changes nothing else (R103, R118, R131,
R142, R150, R188). -/
def Obligations.UnitResets : Prop :=
  ∀ s : State, s.run = none →
    exec .wsReset s = .next { s with
      ws := { s.ws with chan := Vector.replicate 2 WsChan.zero }, done := true, nonf := false } ∧
    (∃ t, exec .peqReset s = .next t ∧ t = { s with peq := t.peq, done := true, nonf := false } ∧
      t.peq.st = PeqState.zeroSt ∧
      ∀ b, b < 8 → vget t.peq.band b EqBand.reset =
        ⟨0, 0, 0, 0, Biquad.kid, (vget s.peq.band b EqBand.reset).bin⟩) ∧
    exec .spaReset s = .next { s with
      spa := { s.spa with
        buf := Vector.replicate 2048 0, wpos := 0, spec := Vector.replicate 1024 0, count := 0 }
      done := true, nonf := false } ∧
    (∀ inst, inst < 2 → ∃ t, exec (.firReset inst) s = .next t ∧
      t = { s with fir := t.fir, done := true, nonf := false } ∧
      firInst t inst = { firInst s inst with dlLc := FirInst.zeroDl, dlHc := FirInst.zeroDl } ∧
      ∀ j, j ≠ inst → firInst t j = firInst s j) ∧
    exec .lmReset s = .next { s with
      lm := { s.lm with
        inLoud := 0, outLoud := 0, target := 0, targetValid := false, compDb := 0, gs := 0x3F800000#32
        kwIn := Vector.replicate 2 KwState.zero, kwOut := Vector.replicate 2 KwState.zero }
      done := true, nonf := false }

/-- RESET_ALL clears what the six unit resets clear, and `LM_TARGET_VALID`, and changes nothing else; it is accepted
before PREPARE (R78, R188). -/
def Obligations.ResetAllEffect : Prop :=
  ∀ s : State, s.run = none → ∃ t, exec .resetAll s = .next t ∧
    t = { s with ws := t.ws, peq := t.peq, spa := t.spa, fir := t.fir, lm := t.lm, done := true, nonf := false } ∧
    (∃ a b c d e f, exec .wsReset s = .next a ∧ exec .peqReset a = .next b ∧ exec .spaReset b = .next c ∧
      exec (.firReset 0) c = .next d ∧ exec (.firReset 1) d = .next e ∧ exec .lmReset e = .next f ∧ t = f)

/-- `WR.STATUS`: each W1C bit written as 1 is cleared, bit 2 with `ERR_CODE` and `ERR_INFO`; nothing else changes,
busy or not (R79). -/
def Obligations.StatusWriteOneToClear : Prop :=
  ∀ (w : Word) (s : State), exec (.wrStatus w) s = .next { s with
    done := s.done && !w.getLsbD 1
    err := s.err && !w.getLsbD 2
    errCode := if w.getLsbD 2 then .none else s.errCode
    errOvf := s.errOvf && !w.getLsbD 2
    errInfo := if w.getLsbD 2 then 0 else s.errInfo
    nonfinite := s.nonfinite && !w.getLsbD 3
    pnan := s.pnan && !w.getLsbD 4
    specNew := s.specNew && !w.getLsbD 5 }

/-- The interrupt output (R175), which `NONFINITE` and `PNAN` do not reach (R176); `WR.IRQ_EN` stores the implemented
bits, and the output follows at once (R80). -/
def Obligations.InterruptOutput : Prop :=
  (∀ s : State, irq s =
    ((s.done && s.irqEn.getLsbD 1) || (s.err && s.irqEn.getLsbD 2) || (s.specNew && s.irqEn.getLsbD 5))) ∧
  (∀ (s : State) (a b : Bool), irq { s with nonfinite := a, pnan := b } = irq s) ∧
  (∀ (w : Word) (s : State), ∃ t, exec (.wrIrqEn w) s = .next t ∧
    t = { s with irqEn := w &&& 0x00000026#32 } ∧
    irq t = ((s.done && w.getLsbD 1) || (s.err && w.getLsbD 2) || (s.specNew && w.getLsbD 5)))

/-- `WR.ARG` and the three `WR.CFG_*`: the word is stored unchanged, any value, busy or not, and nothing else changes
(R81, R82). -/
def Obligations.PlainControlWrites : Prop :=
  ∀ (w : Word) (s : State),
    exec (.wrArg w) s = .next { s with arg := w } ∧
    exec (.wrCfgFs w) s = .next { s with cfg := ⟨w, s.cfg.maxblock, s.cfg.channels⟩ } ∧
    exec (.wrCfgMaxblock w) s = .next { s with cfg := ⟨s.cfg.fs, w, s.cfg.channels⟩ } ∧
    exec (.wrCfgChannels w) s = .next { s with cfg := ⟨s.cfg.fs, s.cfg.maxblock, w⟩ }

/-- The control-register reads, busy or not, and the refused writes of the read-only ones (R83); the numbers of the
error codes (R24, R170). -/
def Obligations.ControlReads : Prop :=
  ∀ s : State,
    exec .rdId s = .next { s with rdata := 0x57464641#32 } ∧
    exec .rdVersion s = .next { s with rdata := 0x00000001#32 } ∧
    exec .rdCmd s = .next { s with rdata := 0 } ∧
    (∃ w : Word, exec .rdStatus s = .next { s with rdata := w } ∧
      w.getLsbD 0 = s.run.isSome ∧ w.getLsbD 1 = s.done ∧ w.getLsbD 2 = s.err ∧ w.getLsbD 3 = s.nonfinite ∧
      w.getLsbD 4 = s.pnan ∧ w.getLsbD 5 = s.specNew ∧ w.getLsbD 6 = s.prepared ∧
      w.getLsbD 7 = s.lm.targetValid ∧ w.extractLsb' 8 24 = 0) ∧
    (let code : BitVec 8 := match s.errCode with
        | .none => 0x00#8 | .badCmd => 0x01#8 | .notPrepared => 0x02#8 | .badConfig => 0x03#8 | .badCount => 0x04#8
        | .busyCmd => 0x05#8 | .busyRam => 0x06#8 | .badAccess => 0x07#8 | .badAddr => 0x08#8
     exec .rdErrCode s = .next { s with rdata := (0#23 ++ BitVec.ofBool s.errOvf) ++ code }) ∧
    exec .rdErrInfo s = .next { s with rdata := s.errInfo } ∧
    exec .rdIrqEn s = .next { s with rdata := s.irqEn } ∧
    exec .rdArg s = .next { s with rdata := s.arg } ∧
    exec .rdResult s = .next { s with rdata := s.result } ∧
    exec .rdCfgFs s = .next { s with rdata := s.cfg.fs } ∧
    exec .rdCfgMaxblock s = .next { s with rdata := s.cfg.maxblock } ∧
    exec .rdCfgChannels s = .next { s with rdata := s.cfg.channels } ∧
    exec .rdPrepFs s = .next { s with rdata := s.prep.fs } ∧
    exec .rdPrepMaxblock s = .next { s with rdata := s.prep.maxblock } ∧
    exec .rdPrepChannels s = .next { s with rdata := s.prep.channels } ∧
    (∀ a ∈ ([0x000, 0x004, 0x010, 0x014, 0x020, 0x040, 0x044, 0x048] : List (BitVec 18)), ∀ (w : Word) rest,
      s.inbox = .access (.bus ⟨true, a, 4, w⟩) :: rest →
      step s = .next (raise .badAddr (0#14 ++ a) { s with inbox := rest }))

/-! ## Parameter registers -/

/-- `WRITE_F`: a NaN changes nothing but `PNAN`; any other word is clamped to the register's range and stored, and
nothing else changes; the two cutoff registers store it unclamped (R85, R88 to R91, R94, R95, R99, R100, R173). -/
def Obligations.FloatParameterWrites : Prop :=
  ∀ (w : Word) (s : State),
    (Fp.isNaN w = true →
      exec (.wrInGainDb w) s = .next { s with pnan := true } ∧
      exec (.wrOutGainDb w) s = .next { s with pnan := true } ∧
      exec (.wrDriveDb w) s = .next { s with pnan := true } ∧
      exec (.wrMixPct w) s = .next { s with pnan := true } ∧
      exec (.wrEqStrengthPct w) s = .next { s with pnan := true } ∧
      exec (.wrEqReactionMs w) s = .next { s with pnan := true } ∧
      exec (.wrLowcutHz w) s = .next { s with pnan := true } ∧
      exec (.wrHighcutHz w) s = .next { s with pnan := true }) ∧
    (Fp.isNaN w = false →
      exec (.wrInGainDb w) s = .next { s with par := { s.par with
        inGainDb := Fp.clamp w 0xC2200000#32 0x42200000#32 } } ∧
      exec (.wrOutGainDb w) s = .next { s with par := { s.par with
        outGainDb := Fp.clamp w 0xC2200000#32 0x42200000#32 } } ∧
      exec (.wrDriveDb w) s = .next { s with par := { s.par with
        driveDb := Fp.clamp w 0x00000000#32 0x41F00000#32 } } ∧
      exec (.wrMixPct w) s = .next { s with par := { s.par with
        mixPct := Fp.clamp w 0x00000000#32 0x42C80000#32 } } ∧
      exec (.wrEqStrengthPct w) s = .next { s with par := { s.par with
        eqStrengthPct := Fp.clamp w 0x00000000#32 0x42C80000#32 } } ∧
      exec (.wrEqReactionMs w) s = .next { s with par := { s.par with
        eqReactionMs := Fp.clamp w 0x41200000#32 0x447A0000#32 } } ∧
      exec (.wrLowcutHz w) s = .next { s with par := { s.par with lowcutHz := w } } ∧
      exec (.wrHighcutHz w) s = .next { s with par := { s.par with highcutHz := w } })

/-- `clamp` (R11): a NaN is returned unchanged; where the bounds cross, `hi`; else the value itself inside the bounds
and the bound passed outside them. -/
def Obligations.ClampRule : Prop :=
  ∀ x lo hi : F32,
    (Fp.isNaN x = true → Fp.clamp x lo hi = x) ∧
    (Fp.isNaN x = false → Fp.isNaN lo = false → Fp.isNaN hi = false →
      (Fp.lt hi lo = true → Fp.clamp x lo hi = hi) ∧
      (Fp.lt hi lo = false →
        (Fp.lt x lo = true → Fp.clamp x lo hi = lo) ∧
        (Fp.lt hi x = true → Fp.clamp x lo hi = hi) ∧
        (Fp.lt x lo = false → Fp.lt hi x = false → Fp.clamp x lo hi = x) ∧
        inRange lo hi (Fp.clamp x lo hi) = true))

/-- `WRITE_I`: the word as a signed integer, clamped to 0..4 (R86, R92, R98). `WRITE_B`: bit 0 is stored (R87, R93,
R96, R97). Nothing else changes. -/
def Obligations.IntegerAndBooleanWrites : Prop :=
  ∀ (w : Word) (s : State),
    let n : Word := if w.slt 0 then 0#32 else if (4#32).slt w then 4#32 else w
    let b : Word := (w.extractLsb' 0 1).zeroExtend 32
    exec (.wrAlgorithm w) s = .next { s with par := { s.par with algorithm := n } } ∧
    exec (.wrEqCurve w) s = .next { s with par := { s.par with eqCurve := n } } ∧
    exec (.wrSolo w) s = .next { s with par := { s.par with solo := b } } ∧
    exec (.wrFilterEn w) s = .next { s with par := { s.par with filterEn := b } } ∧
    exec (.wrEqEn w) s = .next { s with par := { s.par with eqEn := b } }

/-- The thirteen parameter reads: the stored word, busy or not (R101). -/
def Obligations.ParameterReads : Prop :=
  ∀ s : State,
    exec .rdInGainDb s = .next { s with rdata := s.par.inGainDb } ∧
    exec .rdOutGainDb s = .next { s with rdata := s.par.outGainDb } ∧
    exec .rdDriveDb s = .next { s with rdata := s.par.driveDb } ∧
    exec .rdMixPct s = .next { s with rdata := s.par.mixPct } ∧
    exec .rdAlgorithm s = .next { s with rdata := s.par.algorithm } ∧
    exec .rdSolo s = .next { s with rdata := s.par.solo } ∧
    exec .rdLowcutHz s = .next { s with rdata := s.par.lowcutHz } ∧
    exec .rdHighcutHz s = .next { s with rdata := s.par.highcutHz } ∧
    exec .rdFilterEn s = .next { s with rdata := s.par.filterEn } ∧
    exec .rdEqEn s = .next { s with rdata := s.par.eqEn } ∧
    exec .rdEqCurve s = .next { s with rdata := s.par.eqCurve } ∧
    exec .rdEqStrengthPct s = .next { s with rdata := s.par.eqStrengthPct } ∧
    exec .rdEqReactionMs s = .next { s with rdata := s.par.eqReactionMs }

/-- What the host writes to parameter registers, `ARG`, `CFG_*` and `IRQ_EN` while a command runs does not reach that
command: writing before the command's rule and writing after it leave the same state (R54, R193). -/
def Obligations.WritesDoNotReachRunningCommand : Prop :=
  ∀ (s : State) (r : Running) (p : Params) (a : Word) (c : Cfg) (q : Word), s.run = some r →
    let write := fun u : State => { u with par := p, arg := a, cfg := c, irqEn := q }
    sequencerStage (write s) = andThen (sequencerStage s) (fun t => .next (write t))

/-- No command changes a host-written register, whatever it does (R31, R188): the parameter registers, `ARG`,
`CFG_*`, `IRQ_EN`; and a command that passes its checks raises no error (R74, R169). -/
def Obligations.CommandsKeepHostRegisters : Prop :=
  ∀ (i : Instr) (s t : State), (commandWord i).isSome = true → exec i s = .next t →
    t.par = s.par ∧ t.arg = s.arg ∧ t.cfg = s.cfg ∧ t.irqEn = s.irqEn ∧ t.pnan = s.pnan ∧ t.inbox = s.inbox ∧
    (s.run = none → commandCheck i s = none → SameControl s t ∧ Completed t)

/-! ## Monitors and windows -/

/-- The monitor reads while no command runs (R160 to R163). `EQ_TARGET` follows the `EQ_CURVE` register, busy or not,
and reads 0.0 with the flat curve (R161). -/
def Obligations.MonitorReads : Prop :=
  (∀ (s : State) (b : Nat),
    exec (.rdEqTarget b) s = .next { s with rdata := Open.targetCurve s.par.eqCurve.toNat b } ∧
    (s.par.eqCurve = 0 → exec (.rdEqTarget b) s = .next { s with rdata := 0x00000000#32 })) ∧
  ∀ s : State, s.run = none →
    (∀ c,
      let v := if c < s.prep.channels.toNat then Fp.sqrt (vget s.ws.chan c WsChan.zero).inMs else 0
      exec (.rdWsInRms c) s = .next { s with rdata := v }) ∧
    (∀ c,
      let v := if c < s.prep.channels.toNat then (vget s.ws.chan c WsChan.zero).inPk else 0
      exec (.rdWsInPeak c) s = .next { s with rdata := v }) ∧
    (∀ c,
      let v := if c < s.prep.channels.toNat then Fp.sqrt (vget s.ws.chan c WsChan.zero).outMs else 0
      exec (.rdWsOutRms c) s = .next { s with rdata := v }) ∧
    (∀ c,
      let v := if c < s.prep.channels.toNat then (vget s.ws.chan c WsChan.zero).outPk else 0
      exec (.rdWsOutPeak c) s = .next { s with rdata := v }) ∧
    (∀ b, exec (.rdEqGain b) s = .next { s with rdata := (vget s.peq.band b EqBand.reset).gain }) ∧
    (∀ b, exec (.rdEqSpectrum b) s = .next { s with rdata := (vget s.peq.band b EqBand.reset).sspec }) ∧
    exec .rdLmCompDb s = .next { s with rdata := s.lm.compDb } ∧
    exec .rdLmInLoud s = .next { s with rdata := s.lm.inLoud } ∧
    exec .rdLmOutLoud s = .next { s with rdata := s.lm.outLoud } ∧
    exec .rdLmTarget s = .next { s with rdata := s.lm.target } ∧
    exec .rdLmGainLin s = .next { s with rdata := s.lm.gs } ∧
    exec .rdSpaWpos s = .next { s with rdata := s.spa.wpos.zeroExtend 32 } ∧
    exec .rdSpaCount s = .next { s with rdata := s.spa.count }

/-- While a command runs, every other monitor read completes, raises nothing and changes no state of the block; the
value is the model's free choice, which R168 allows (log 4). -/
def Obligations.MonitorReadsBusy : Prop :=
  ∀ (i : Instr) (s : State) (r : Running), s.run = some r →
    (i ∈ [.rdLmCompDb, .rdLmInLoud, .rdLmOutLoud, .rdLmTarget, .rdLmGainLin, .rdSpaWpos, .rdSpaCount] ∨
      ∃ c, c < 8 ∧ i ∈ [.rdWsInRms c, .rdWsInPeak c, .rdWsOutRms c, .rdWsOutPeak c, .rdEqGain c, .rdEqSpectrum c]) →
    ∃ (w : Word) (n : Nat), exec i s = .next { s with rdata := w, draws := n }

/-- The RAM windows read while no command runs (R164 to R166): a spectrum word, a bin frequency, and the four bytes of
a sample, lowest address first (R44). -/
def Obligations.WindowReadsIdle : Prop :=
  ∀ s : State, s.run = none →
    (∀ k, k < 1024 → exec (.rdSpec k) s = .next { s with rdata := vget s.spa.spec k 0 }) ∧
    (∀ k, k < 1024 → exec (.rdBinfreq k) s = .next { s with rdata := vget s.spa.binfreq k 0 }) ∧
    (∀ c i, c < 2 → i < 4096 → ∃ w : Word, exec (.rdSample c i) s = .next { s with rdata := w } ∧
      ∀ j, j < 4 → w.extractLsb' (8 * j) 8 = s.mem.read (0x10000 + 0x4000 * c + 4 * i + j))

/-- `WR.SAMPLE` while no command runs (R167): the four bytes are stored little-endian, every other byte of sample RAM
and every other cell is as before, and the word reads back. -/
def Obligations.SampleWriteIdle : Prop :=
  ∀ (s : State) (c i : Nat) (w : Word), s.run = none → c < 2 → i < 4096 →
    ∃ t, exec (.wrSample c i w) s = .next t ∧ t = { s with mem := t.mem } ∧
      (∀ j, j < 4 → t.mem.read (saddr c i + j) = w.extractLsb' (8 * j) 8) ∧
      (∀ a, a < saddr c i ∨ saddr c i + 4 ≤ a → t.mem.read a = s.mem.read a) ∧
      exec (.rdSample c i) t = .next { t with rdata := w }

/-- Reads have no side effect: every read changes nothing of the block but, where it is refused, the error registers
(R48). -/
def Obligations.ReadsChangeNothing : Prop :=
  ∀ (i : Instr) (t : Txn) (s u : State), encode i = .bus t → t.write = false → exec i s = .next u →
    u = { s with rdata := u.rdata, draws := u.draws } ∨
    (s.run.isSome = true ∧ ∃ a, u = raise .busyRam a { s with rdata := 0 })

/-! ## Block commands: frames, non-finite samples -/

/-- Every block command that passes its checks completes, whatever the samples hold, and what it leaves alone:
host-written and error registers, the latched configuration, `RESULT`, every byte of sample RAM outside the block, and
the units it does not name (R49, R84, R137, R169). -/
def Obligations.BlockFrame : Prop :=
  ∀ (ns : Nat) (s : State), Ready ns s →
    (∀ i, blockLength i = some ns → ∃ t, exec i s = .next t ∧
      Completed t ∧ SameControl s t ∧ SamePrep s t ∧ t.result = s.result ∧ SameOutside ns s t) ∧
    ∀ t : State,
      (exec (.spaProduce ns) s = .next t →
        t.ws = s.ws ∧ t.peq = s.peq ∧ t.fir = s.fir ∧ t.lm = s.lm ∧ t.mem = s.mem) ∧
      (∀ inst, exec (.firProcess inst ns) s = .next t →
        t.ws = s.ws ∧ t.peq = s.peq ∧ t.spa = s.spa ∧ t.lm = s.lm ∧ t.specNew = s.specNew ∧
        ∀ j, j ≠ inst → firInst t j = firInst s j) ∧
      (exec (.peqProcess ns) s = .next t → t.ws = s.ws ∧ t.fir = s.fir ∧ t.lm = s.lm) ∧
      (exec (.wsProcess ns) s = .next t →
        t.peq = s.peq ∧ t.spa = s.spa ∧ t.fir = s.fir ∧ t.lm = s.lm ∧ t.specNew = s.specNew) ∧
      (exec (.lmAnalyzeIn ns) s = .next t ∨ exec (.lmAnalyzeOut ns) s = .next t →
        t.ws = s.ws ∧ t.peq = s.peq ∧ t.spa = s.spa ∧ t.fir = s.fir ∧ t.specNew = s.specNew ∧ t.mem = s.mem) ∧
      (exec (.lmApply ns) s = .next t →
        t.ws = s.ws ∧ t.peq = s.peq ∧ t.spa = s.spa ∧ t.fir = s.fir ∧ t.specNew = s.specNew)

/-- A command that reads a NaN or infinite sample, or WS_CURVE a non-finite `ARG`, completes with `NONFINITE` set and
raises no error: the error registers and all the host wrote stay (R172). -/
def Obligations.NonFiniteSamples : Prop :=
  (∀ (ns inst : Nat) (s : State), Ready ns s → ¬ FiniteBlock ns s →
    (∀ i ∈ [Instr.spaProduce ns, .wsProcess ns, .lmAnalyzeIn ns, .lmAnalyzeOut ns, .lmApply ns, .chainProcess ns],
      ∃ t, exec i s = .next t ∧ Completed t ∧ t.nonfinite = true ∧ SameControl s t ∧ SamePrep s t) ∧
    (s.par.eqEn ≠ 0 → ∃ t, exec (.peqProcess ns) s = .next t ∧ Completed t ∧ t.nonfinite = true ∧
      SameControl s t ∧ SamePrep s t) ∧
    (s.par.filterEn ≠ 0 → (lowBypass s.par s.prep.fs && highBypass s.par) = false →
      ∃ t, exec (.firProcess inst ns) s = .next t ∧ Completed t ∧ t.nonfinite = true ∧ SameControl s t ∧
        SamePrep s t)) ∧
  (∀ s : State, s.run = none → s.prepared = true → Fp.isFinite s.arg = false →
    ∃ t, exec .wsCurve s = .next t ∧
      t = { s with result := t.result, done := true, nonf := true, nonfinite := true, draws := t.draws })

/-! ## Waveshaper -/

/-- WS_PROCESS on a finite block: each prepared channel's samples go through the per-sample rule in order, from the
channel's cells before to its cells after, with the drive gain, the mix, the algorithm and solo of the parameter
registers; the other channels' cells and the coefficients are kept (R104). -/
def Obligations.WsProcessEffect : Prop :=
  ∀ (ns : Nat) (s : State), Ready ns s → FiniteBlock ns s →
    let setup : WsSetup :=
      { gain := Open.pow10 (Fp.div s.par.driveDb 0x41A00000#32), mixFrac := Fp.div s.par.mixPct 0x42C80000#32
        alg := s.par.algorithm.toNat, solo := s.par.solo == 1#32, aRms := s.ws.aRms, aPk := s.ws.aPk }
    ∃ t, exec (.wsProcess ns) s = .next t ∧ Completed t ∧ SameControl s t ∧ SamePrep s t ∧
      t.nonfinite = s.nonfinite ∧ t.specNew = s.specNew ∧ t.ws.aRms = s.ws.aRms ∧ t.ws.aPk = s.ws.aPk ∧
      (∀ c, c < chans s → Runs (wsSample setup) ns (sampleAt s c) (sampleAt t c)
        (vget s.ws.chan c WsChan.zero) (vget t.ws.chan c WsChan.zero)) ∧
      (∀ c, chans s ≤ c → vget t.ws.chan c WsChan.zero = vget s.ws.chan c WsChan.zero) ∧
      t.peq = s.peq ∧ t.spa = s.spa ∧ t.fir = s.fir ∧ t.lm = s.lm ∧ t.result = s.result ∧ SameOutside ns s t

/-- One sample of WS_PROCESS, written out (R104, R105, R113): both meters, the oversampler around four calls of the
selected algorithm in order, and the mix of the undelayed dry sample. -/
def Obligations.WsSampleRule : Prop :=
  ∀ (p : WsSetup) (ch ch' : WsChan) (x y : F32), wsSample p ch x = (ch', y) →
    ∃ (u0 u1 u2 u3 w0 w1 w2 w3 wet : F32) (a1 a2 a3 a4 : WsChan) (up dn : OsState),
      Open.osUp ch.osUp x = (up, [u0, u1, u2, u3]) ∧
      algorithm p.alg { ch with
        inMs := Fp.add (Fp.mul p.aRms ch.inMs) (Fp.mul (Fp.sub Fp.one p.aRms) (Fp.mul x x))
        inPk := if Fp.gt (Fp.abs x) ch.inPk then Fp.abs x
          else Fp.add (Fp.mul p.aPk ch.inPk) (Fp.mul (Fp.sub Fp.one p.aPk) (Fp.abs x))
        osUp := up } (Fp.mul p.gain u0) = (a1, w0) ∧
      algorithm p.alg a1 (Fp.mul p.gain u1) = (a2, w1) ∧
      algorithm p.alg a2 (Fp.mul p.gain u2) = (a3, w2) ∧
      algorithm p.alg a3 (Fp.mul p.gain u3) = (a4, w3) ∧
      Open.osDown ch.osDown [w0, w1, w2, w3] = (dn, wet) ∧
      y = (if p.solo then wet else Fp.add (Fp.mul x (Fp.sub Fp.one p.mixFrac)) (Fp.mul wet p.mixFrac)) ∧
      ch' = { a4 with
        osDown := dn
        outMs := Fp.add (Fp.mul p.aRms ch.outMs) (Fp.mul (Fp.sub Fp.one p.aRms) (Fp.mul y y))
        outPk := if Fp.gt (Fp.abs y) ch.outPk then Fp.abs y
          else Fp.add (Fp.mul p.aPk ch.outPk) (Fp.mul (Fp.sub Fp.one p.aPk) (Fp.abs y)) }

/-- The five algorithms written out (R108 to R112, Tube with D61's zero), each changing its own cells only (R107), and
the output of each, unless it is a NaN, within its limit (R115). -/
def Obligations.AlgorithmCellsAndBounds : Prop :=
  ∀ (ch : WsChan) (v : F32),
    (let v1 := Open.tubeStage 1 (Fp.max v 0xC0000000#32)
     let v2 := Open.tubeStage 2 (Fp.max v1 0xC0000000#32)
     let v3 := Open.tubeStage 3 (Fp.max v2 0xC0000000#32)
     let t := Fp.add (if Fp.isZero v then 0x00000000#32 else Open.tubeXfmr v3) (Fp.mul Open.tubeHyst ch.tubeH)
     let y := Fp.clamp t 0xBF733333#32 0x3F733333#32
     algorithm 0 ch v = ({ ch with tubeH := y }, y)) ∧
    (let u := Fp.add v (Fp.mul Open.tapeBiasAmp (Open.sin ch.tapePhi))
     let p := Fp.add ch.tapePhi Open.tapeBiasInc
     let phi := if Fp.ge p 0x40C90FDB#32 then Fp.sub p 0x40C90FDB#32 else p
     let h := if Fp.gt (Fp.abs u) 0x3E99999A#32
       then Fp.add (Fp.mul 0x3F333333#32 (Open.tapeSat u)) (Fp.mul 0x3E99999A#32 ch.tapeM) else ch.tapeM
     let d := Fp.sub h (Fp.mul 0x3DCCCCCD#32 (Fp.sub h ch.tapePrev))
     algorithm 1 ch v =
       ({ ch with tapePhi := phi, tapeM := h, tapePrev := h }, Fp.clamp d 0xBF666666#32 0x3F666666#32)) ∧
    (let a := if Fp.lt (Fp.abs v) 0x3CA3D70A#32 then Open.xsLow v else Open.xsHigh v
     let y := Fp.clamp (Fp.sub a (Fp.mul 0x3D4CCCCD#32 ch.xsFb)) 0xBF733333#32 0x3F733333#32
     algorithm 2 ch v = ({ ch with xsFb := y }, y)) ∧
    (let nvt := Fp.mul 0x3F800000#32 0x3CD4FDF4#32
     let d := if Fp.ge v 0x00000000#32
       then Fp.mul (Fp.mul 0x3F333333#32 Open.diodeIs)
         (Fp.sub (Open.exp (Fp.min (Fp.div v nvt) 0x41200000#32)) 0x3F800000#32)
       else Fp.neg (Fp.mul Open.diodeIs
         (Fp.sub (Open.exp (Fp.min (Fp.div (Fp.neg v) nvt) 0x41200000#32)) 0x3F800000#32))
     algorithm 3 ch v = (ch, Fp.clamp (Open.tanh (Fp.mul Open.diodeK d)) 0xBF7AE148#32 0x3F7AE148#32)) ∧
    (let drift := Fp.add ch.fuzzDrift (Fp.mul (Fp.sub (Fp.mul v v) ch.fuzzDrift) 0x3A83126F#32)
     let a1 := Open.fuzzS1 v (Open.fuzzVt drift) ch.fuzzM2
     let a2 := Open.fuzzS2 a1 ch.fuzzM1
     algorithm 4 ch v = ({ ch with fuzzDrift := drift, fuzzM1 := a1, fuzzM2 := a2 },
       Fp.clamp a2 0xBF59999A#32 0x3F59999A#32)) ∧
    ∀ alg lim, (alg, lim) ∈ ([(0, 0x3F733333#32), (1, 0x3F666666#32), (2, 0x3F733333#32), (3, 0x3F7AE148#32),
        (4, 0x3F59999A#32)] : List (Nat × F32)) →
      Fp.isNaN (algorithm alg ch v).2 = true ∨ inRange (Fp.neg lim) lim (algorithm alg ch v).2 = true

/-- WS_CURVE with a finite `ARG`: one call of the selected algorithm on cells of zeros; only `RESULT` changes
(R114). -/
def Obligations.WsCurveEffect : Prop :=
  ∀ s : State, s.run = none → s.prepared = true → Fp.isFinite s.arg = true →
    exec .wsCurve s = .next { s with
      result := (algorithm s.par.algorithm.toNat WsChan.zero
        (Fp.mul (Open.pow10 (Fp.div s.par.driveDb 0x41A00000#32)) s.arg)).2
      done := true
      nonf := false }

/-! ## Analyser -/

/-- SPA_PRODUCE on a finite block: the mono samples enter the circular buffer, the position and the count advance with
the wraps, the spectrum is that of the windowed buffer at the last wrap of the position to 0 (after sample `m - 1`; no
wrap, no change), and sample RAM is not written (R132 to R136). The mono sample is the channel average (R133), a
spectrum word the scaled magnitude of the transform's bin (R134, R135). -/
def Obligations.SpaProduceEffect : Prop :=
  ∀ (ns : Nat) (s : State), Ready ns s → FiniteBlock ns s →
    let average := fun i => if s.prep.channels = 2#32
      then Fp.div (Fp.add (sampleAt s 0 i) (sampleAt s 1 i)) 0x40000000#32
      else Fp.div (sampleAt s 0 i) 0x3F800000#32
    ∃ t, exec (.spaProduce ns) s = .next t ∧ Completed t ∧ SameControl s t ∧ SamePrep s t ∧
      t.nonfinite = s.nonfinite ∧ t.mem = s.mem ∧ t.ws = s.ws ∧ t.peq = s.peq ∧ t.fir = s.fir ∧ t.lm = s.lm ∧
      t.result = s.result ∧
      t.spa.wpos.toNat = (s.spa.wpos.toNat + ns) % 2048 ∧
      t.spa.count.toNat = (s.spa.count.toNat + (s.spa.wpos.toNat + ns) / 2048) % 2 ^ 32 ∧
      t.specNew = (s.specNew || decide (2048 ≤ s.spa.wpos.toNat + ns)) ∧
      t.spa.win = s.spa.win ∧ t.spa.binfreq = s.spa.binfreq ∧
      (∀ i, i < ns → ns ≤ i + 2048 → vget t.spa.buf ((s.spa.wpos.toNat + i) % 2048) 0 = average i) ∧
      (∀ j, (∀ i, i < ns → (s.spa.wpos.toNat + i) % 2048 ≠ j) → vget t.spa.buf j 0 = vget s.spa.buf j 0) ∧
      (s.spa.wpos.toNat + ns < 2048 → t.spa.spec = s.spa.spec) ∧
      (∀ m, 0 < m → m ≤ ns → ns < m + 2048 → (s.spa.wpos.toNat + m) % 2048 = 0 →
        let z : List F32 := (List.range 2048).map (fun j => Fp.mul (vget s.spa.win j 0)
          (if 2048 ≤ m + j then average (m + j - 2048) else vget s.spa.buf j 0))
        ∀ k, k < 1024 →
          (let x := Open.dft2048 z k
           vget t.spa.spec k 0 =
            Fp.mul (Fp.div (Fp.sqrt (Fp.add (Fp.mul x.1 x.1) (Fp.mul x.2 x.2))) 0x45000000#32) 0x40000000#32))

/-! ## Peaking EQ -/

/-- PEQ_PROCESS enabled, on a finite block: the analyser is fed the block as it enters, every band runs its control
loop on the spectrum then left, and each channel is filtered with the new coefficients (R119 to R126). One sample goes
through the eight bands in ascending order (R126), through one biquad step in each (R17). -/
def Obligations.PeqProcessEffect : Prop :=
  (∀ (k : Biquad) (z : BqState) (x : F32),
    let y := Fp.add (Fp.mul k.b0 x) z.s1
    bq k z x = (y, ⟨Fp.add (Fp.sub (Fp.mul k.b1 x) (Fp.mul k.a1 y)) z.s2,
      Fp.sub (Fp.mul k.b2 x) (Fp.mul k.a2 y)⟩)) ∧
  (∀ (band : Vector EqBand 8) (st : Vector BqState 8) (x : F32), ∃ y : Nat → F32, y 0 = x ∧
    (bandChain band st x).2 = y 8 ∧
    ∀ b, b < 8 → (y (b + 1), vget (bandChain band st x).1 b BqState.zero) =
      bq (vget band b EqBand.reset).coef (vget st b BqState.zero) (y b)) ∧
  ∀ (ns : Nat) (s : State), Ready ns s → FiniteBlock ns s → s.par.eqEn ≠ 0 →
    ∃ t, exec (.peqProcess ns) s = .next t ∧ Completed t ∧ SameControl s t ∧ SamePrep s t ∧
      t.nonfinite = s.nonfinite ∧ t.ws = s.ws ∧ t.fir = s.fir ∧ t.lm = s.lm ∧ t.result = s.result ∧
      (∃ u, exec (.spaProduce ns) s = .next u ∧ t.spa = u.spa ∧ t.specNew = u.specNew) ∧
      (∀ b, b < 8 → vget t.peq.band b EqBand.reset =
        bandLoop s.par s.prep.fs ns t.spa.spec b (vget s.peq.band b EqBand.reset)) ∧
      (∀ c, c < chans s → Runs (bandChain t.peq.band) ns (sampleAt s c) (sampleAt t c)
        (vget s.peq.st c (Vector.replicate 8 BqState.zero)) (vget t.peq.st c (Vector.replicate 8 BqState.zero))) ∧
      (∀ c, chans s ≤ c → vget t.peq.st c (Vector.replicate 8 BqState.zero) =
        vget s.peq.st c (Vector.replicate 8 BqState.zero)) ∧
      SameOutside ns s t

/-- The control loop of one band, written out (R120 to R124), with the peaking design of its centre frequency
(R41, R125). -/
def Obligations.BandLoopRule : Prop :=
  ∀ (par : Params) (fs : F32) (ns b : Nat) (spec : Vector F32 1024) (x : EqBand),
    let m := vget spec x.bin.toNat 0
    let db := if Fp.gt m 0x00000000#32 then Fp.max (Fp.mul 0x41A00000#32 (Open.log10 m)) 0xC2700000#32
      else 0xC2700000#32
    let coeff := Open.exp (Fp.div 0xBF800000#32
      (Fp.div (Fp.mul (Fp.div par.eqReactionMs 0x447A0000#32) fs) (Fp.ofInt ns)))
    let sspec := Fp.add (Fp.mul coeff x.sspec) (Fp.mul (Fp.sub 0x3F800000#32 coeff) db)
    let corr := Fp.mul (Fp.sub (Open.targetCurve par.eqCurve.toNat b) sspec)
      (Fp.div par.eqStrengthPct 0x42C80000#32)
    let target := Fp.clamp corr 0xC1400000#32 0x41400000#32
    let sgain := Fp.add (Fp.mul x.sgain 0x3F733333#32) (Fp.mul target 0x3D4CCCCD#32)
    let stale := Fp.gt (Fp.abs (Fp.sub sgain x.gain)) 0x3DCCCCCD#32
    let f : F32 := ([0x42A00000#32, 0x43480000#32, 0x43FA0000#32, 0x44960000#32, 0x453B8000#32, 0x45BB8000#32,
      0x463B8000#32, 0x467A0000#32] : List F32).getD b 0
    let w := Fp.div (Fp.mul 0x40C90FDB#32 f) fs
    let cs := Open.cos w
    let alpha := Fp.div (Open.sin w) (Fp.mul 0x40000000#32 0x40000000#32)
    let amp := Open.pow10 (Fp.div sgain 0x42200000#32)
    let a0 := Fp.add 0x3F800000#32 (Fp.div alpha amp)
    let peaking : Biquad :=
      ⟨Fp.div (Fp.add 0x3F800000#32 (Fp.mul alpha amp)) a0, Fp.div (Fp.mul 0xC0000000#32 cs) a0,
        Fp.div (Fp.sub 0x3F800000#32 (Fp.mul alpha amp)) a0, Fp.div (Fp.mul 0xC0000000#32 cs) a0,
        Fp.div (Fp.sub 0x3F800000#32 (Fp.div alpha amp)) a0⟩
    bandLoop par fs ns spec b x =
      ⟨if stale then sgain else x.gain, target, sgain, sspec,
        if stale then peaking else x.coef, x.bin⟩

/-- The band-to-bin map PREPARE fixes stays within the spectrum, for every accepted configuration (R34, R117). -/
def Obligations.BinsInRange : Prop :=
  ∀ s t : State, s.run = none → cfgOk s.cfg = true → exec .prepare s = .next t →
    ∀ b, b < 8 → 1 ≤ (vget t.peq.band b EqBand.reset).bin.toNat ∧ (vget t.peq.band b EqBand.reset).bin.toNat ≤ 1023

/-! ## FIR pair -/

/-- A unit that is off passes the block through: PEQ_PROCESS with `EQ_EN = 0` is a complete no-op (R128); FIR_PROCESS
disabled, or with both filters bypassed (R144), changes nothing, the designs included (R143, R145). -/
def Obligations.UnitsSwitchedOff : Prop :=
  ∀ (ns : Nat) (s : State), Ready ns s →
    (s.par.eqEn = 0 → exec (.peqProcess ns) s = .next { s with done := true, nonf := false }) ∧
    (∀ inst, inst < 2 →
      s.par.filterEn = 0 ∨ (lowBypass s.par s.prep.fs = true ∧ highBypass s.par = true) →
      exec (.firProcess inst ns) s = .next { s with done := true, nonf := false })

/-- FIR_PROCESS running, on a finite block: the gate redesigns once, then each channel's samples go through the
filters that are not bypassed, low-cut first; a bypassed filter's lines are frozen, and the other instance is not
touched (R143 to R146). -/
def Obligations.FirProcessEffect : Prop :=
  (∀ (lcBy hcBy : Bool) (f : FirInst) (lc hc : Vector F32 510) (x : F32),
    let afterLow := if lcBy then x else (firStep f.hLc lc x).2
    firSample lcBy hcBy f (lc, hc) x =
      ((if lcBy then lc else (firStep f.hLc lc x).1, if hcBy then hc else (firStep f.hHc hc afterLow).1),
        if hcBy then afterLow else (firStep f.hHc hc afterLow).2)) ∧
  ∀ (ns inst : Nat) (s : State), Ready ns s → FiniteBlock ns s → inst < 2 → s.par.filterEn ≠ 0 →
    (lowBypass s.par s.prep.fs && highBypass s.par) = false →
    ∃ t, exec (.firProcess inst ns) s = .next t ∧ Completed t ∧ SameControl s t ∧ SamePrep s t ∧
      t.nonfinite = s.nonfinite ∧ t.ws = s.ws ∧ t.peq = s.peq ∧ t.spa = s.spa ∧ t.lm = s.lm ∧
      t.result = s.result ∧ t.specNew = s.specNew ∧ SameOutside ns s t ∧
      (∀ j, j ≠ inst → firInst t j = firInst s j) ∧
      (let f := redesign s.par s.prep.fs (firInst s inst)
       let g := firInst t inst
       g.hLc = f.hLc ∧ g.hHc = f.hHc ∧ g.frLc = f.frLc ∧ g.frHc = f.frHc ∧
       (∀ c, c < chans s →
        Runs (firSample (lowBypass s.par s.prep.fs) (highBypass s.par) f) ns (sampleAt s c) (sampleAt t c)
          (vget f.dlLc c noLine, vget f.dlHc c noLine) (vget g.dlLc c noLine, vget g.dlHc c noLine)) ∧
       (∀ c, chans s ≤ c → vget g.dlLc c noLine = vget f.dlLc c noLine ∧ vget g.dlHc c noLine = vget f.dlHc c noLine) ∧
       (lowBypass s.par s.prep.fs = true → g.dlLc = f.dlLc) ∧ (highBypass s.par = true → g.dlHc = f.dlHc))

/-- The redesign gate (R144, R145): a filter that is not bypassed and whose request lies more than 0.1 Hz from the
realised cutoff is designed anew; every other keeps its kernel and cutoff; the delay lines stay. One FIR step (R146):
the output is the ascending sum of the taps with the sample and the delay line, and the line shifts by one. -/
def Obligations.FirGateAndStep : Prop :=
  (∀ (par : Params) (fs : F32) (f : FirInst),
    let lc := Fp.clamp par.lowcutHz 0x41A00000#32 (Fp.mul 0x3EE66666#32 fs)
    let hc := Fp.clamp par.highcutHz 0x447A0000#32 (Fp.mul 0x3EE66666#32 fs)
    let lcNew := !Fp.eq lc 0x41A00000#32 && Fp.gt (Fp.abs (Fp.sub lc f.frLc)) 0x3DCCCCCD#32
    let hcNew := !Fp.ge par.highcutHz 0x469C4000#32 && Fp.gt (Fp.abs (Fp.sub hc f.frHc)) 0x3DCCCCCD#32
    redesign par fs f =
      ⟨if lcNew then highPass lc fs else f.hLc, if hcNew then lowPass hc fs else f.hHc,
        if lcNew then lc else f.frLc, if hcNew then hc else f.frHc, f.dlLc, f.dlHc⟩) ∧
  (∀ (h : Vector F32 511) (dl : Vector F32 510) (x : F32),
    (firStep h dl x).2 =
      (List.range 510).foldl (fun y j => Fp.add y (Fp.mul (vget h (j + 1) 0) (vget dl j 0)))
        (Fp.mul (vget h 0 0) x) ∧
    (∀ j, j < 510 → vget (firStep h dl x).1 j 0 = if j = 0 then x else vget dl (j - 1) 0))

/-! ## Loudness -/

/-- LM_ANALYZE_IN on a finite block: the loudness is recorded, the first one after a reset is latched as the target,
sample RAM is read only (R152). -/
def Obligations.LmAnalyzeInEffect : Prop :=
  ∀ (ns : Nat) (s : State), Ready ns s → FiniteBlock ns s →
    exec (.lmAnalyzeIn ns) s = .next { s with
      lm := { s.lm with
        inLoud := (measure s ns s.lm.kwIn).1
        kwIn := (measure s ns s.lm.kwIn).2
        target := if s.lm.targetValid then s.lm.target else (measure s ns s.lm.kwIn).1
        targetValid := true }
      done := true
      nonf := false }

/-- LM_ANALYZE_OUT on a finite block: the loudness is recorded with its own K-weighting state, and the compensation
gain moves towards the clamped dB ratio only where a positive target is latched and the output is not silent
(R153). -/
def Obligations.LmAnalyzeOutEffect : Prop :=
  ∀ (ns : Nat) (s : State), Ready ns s → FiniteBlock ns s →
    let out := (measure s ns s.lm.kwOut).1
    let d := Fp.clamp (Fp.mul 0x41A00000#32 (Open.log10 (Fp.div s.lm.target out))) 0xC1400000#32 0x41400000#32
    exec (.lmAnalyzeOut ns) s = .next { s with
      lm := { s.lm with
        outLoud := out
        kwOut := (measure s ns s.lm.kwOut).2
        compDb := if s.lm.targetValid = true ∧ Fp.gt s.lm.target 0 = true ∧ Fp.gt out 0 = true
          then Fp.add (Fp.mul s.lm.compDb 0x3F733333#32) (Fp.mul d 0x3D4CCCCD#32) else s.lm.compDb }
      done := true
      nonf := false }

/-- `MEASURE` (R151): channel by channel, channel 0 first, each sample through the high-pass and then the shelf; the
weighted and the plain mean square and the peak over all prepared channels; the states of the channels that are not
prepared kept. `w` runs through a channel's K-weighting states, `q` through the sums. -/
def Obligations.MeasureRule : Prop :=
  ∀ (s : State) (ns : Nat) (kw : Vector KwState 2), chans s ≤ 2 →
    ∃ (w : Nat → Nat → KwState) (q : Nat → Nat → Sums), q 0 0 = ⟨0, 0, 0⟩ ∧
      (∀ c, c < chans s → w c 0 = vget kw c KwState.zero ∧ vget (measure s ns kw).2 c KwState.zero = w c ns ∧
        q (c + 1) 0 = q c ns ∧
        ∀ i, i < ns →
          let x := sampleAt s c i
          let t := bq s.lm.kHp (w c i).hp x
          let k := bq s.lm.kSh (w c i).sh t.1
          w c (i + 1) = ⟨t.2, k.2⟩ ∧
          q c (i + 1) = ⟨Fp.add (q c i).sk (Fp.mul k.1 k.1), Fp.add (q c i).s (Fp.mul x x),
            Fp.max (q c i).pk (Fp.abs x)⟩) ∧
      (∀ c, chans s ≤ c → vget (measure s ns kw).2 c KwState.zero = vget kw c KwState.zero) ∧
      (let z := q (chans s) 0
       let n := Fp.ofInt (chans s * ns : Nat)
       (measure s ns kw).1 = Open.loudness (Fp.sqrt (Fp.div z.sk n)) (Fp.sqrt (Fp.div z.s n)) z.pk)

/-- LM_APPLY on a finite block: the gain smoother advances once for each sample index, attack where the target lies
below it and release elsewhere, and every channel's sample is multiplied by it (R154). -/
def Obligations.LmApplyEffect : Prop :=
  ∀ (ns : Nat) (s : State), Ready ns s → FiniteBlock ns s →
    ∃ t, exec (.lmApply ns) s = .next t ∧ Completed t ∧ SameControl s t ∧ SamePrep s t ∧
      t.nonfinite = s.nonfinite ∧ t.ws = s.ws ∧ t.peq = s.peq ∧ t.spa = s.spa ∧ t.fir = s.fir ∧
      t.result = s.result ∧ t.specNew = s.specNew ∧ t.lm = { s.lm with gs := t.lm.gs } ∧ SameOutside ns s t ∧
      ∃ g : Nat → F32, g 0 = s.lm.gs ∧ g ns = t.lm.gs ∧
        (let tgt := if Fp.gt (Fp.abs s.lm.compDb) 0x3DCCCCCD#32
          then Open.pow10 (Fp.div s.lm.compDb 0x41A00000#32) else 0x3F800000#32
         ∀ i, i < ns →
          (let a := if Fp.lt tgt (g i) then s.lm.aAtt else s.lm.aRel
           g (i + 1) = Fp.add (Fp.mul a (g i)) (Fp.mul (Fp.sub 0x3F800000#32 a) tgt)) ∧
          ∀ c, c < chans s → sampleAt t c i = Fp.mul (sampleAt s c i) (g (i + 1)))

/-! ## Chain -/

/-- CHAIN_PROCESS where no step reads a non-finite sample: the nine steps in the document's order, each on the state
the one before left, with one snapshot, one acceptance and one completion (R157). -/
def Obligations.ChainProcessEffect : Prop :=
  ∀ (ns : Nat) (s : State), Ready ns s →
    let s0 : State := { s with
      run := some ⟨cmdWord 0x60 0 ns, ⟨s.par, s.arg⟩, s.cfg, false⟩, done := false, nonf := false }
    let s1 := lmAnalyzeIn ns s0
    let s2 := gain s.par.inGainDb ns s1
    let s3 := firProcess s.par ns 0 s2
    let s4 := wsProcess s.par ns s3
    let s5 := peqProcess s.par ns s4
    let s6 := firProcess s.par ns 1 s5
    let s7 := gain s.par.outGainDb ns s6
    let s8 := lmAnalyzeOut ns s7
    let s9 := lmApply ns s8
    s9.nonf = false → exec (.chainProcess ns) s = .next { s9 with run := none, done := true }

/-- The gain stage (R156): every sample of the block times `POW10(gdb / 20)`, nothing else but the note of a
non-finite sample; at 0 dB every finite block is unchanged. -/
def Obligations.GainAtZeroDb : Prop :=
  (∀ (gdb : F32) (ns : Nat) (s : State), Ready ns s →
    gain gdb ns s = { s with mem := (gain gdb ns s).mem, nonf := (gain gdb ns s).nonf } ∧
    SameOutside ns s (gain gdb ns s) ∧
    ∀ c, c < chans s → ∀ i, i < ns →
      sampleAt (gain gdb ns s) c i = Fp.mul (sampleAt s c i) (Open.pow10 (Fp.div gdb 0x41A00000#32))) ∧
  ∀ (ns : Nat) (s : State), Ready ns s → FiniteBlock ns s →
    ∀ c, c < chans s → ∀ i, i < ns → sampleAt (gain 0x00000000#32 ns s) c i = sampleAt s c i

/-! ## Derived tables and designs -/

/-- The tables and designs PREPARE derives, written out: the Hann window and the bin frequencies (R130), the
band-to-bin map (R117), the Blackman window (R138), the low-pass and high-pass kernels (R139, R140), the two
K-weighting designs (R148), and the coefficient of a time constant (R102, R149). -/
def Obligations.DesignsWrittenOut : Prop :=
  (∀ n, hann n = Fp.mul 0x3F000000#32 (Fp.sub 0x3F800000#32
    (Open.cos (Fp.div (Fp.mul 0x40C90FDB#32 (Fp.ofInt n)) (Fp.ofInt 2047))))) ∧
  (∀ fs k, binFreq fs k = Fp.div (Fp.mul (Fp.ofInt k) fs) 0x45000000#32) ∧
  (∀ fs b, b < 8 →
    let f : F32 := ([0x42A00000#32, 0x43480000#32, 0x43FA0000#32, 0x44960000#32, 0x453B8000#32, 0x45BB8000#32,
      0x463B8000#32, 0x467A0000#32] : List F32).getD b 0
    let r := Fp.mul (Fp.div f (Fp.div fs 0x40000000#32)) 0x44800000#32
    bandBin fs b =
      BitVec.ofInt 11 (Fp.floor (Fp.clamp (Fp.add r 0x3F000000#32) 0x3F800000#32 0x447FC000#32))) ∧
  (∀ i, blackman i = Fp.add
    (Fp.sub 0x3ED70A3D#32
      (Fp.mul 0x3F000000#32 (Open.cos (Fp.div (Fp.mul 0x40C90FDB#32 (Fp.ofInt i)) (Fp.ofInt 510)))))
    (Fp.mul 0x3DA3D70A#32
      (Open.cos (Fp.div (Fp.mul (Fp.mul 0x40000000#32 0x40C90FDB#32) (Fp.ofInt i)) (Fp.ofInt 510))))) ∧
  (∀ fc fs : F32,
    let nu := Fp.div fc fs
    let p : Nat → F32 := fun i =>
      let m : Int := (i : Int) - 255
      Fp.mul (if m = 0 then Fp.mul 0x40000000#32 nu
        else Fp.div (Open.sin (Fp.mul (Fp.mul 0x40C90FDB#32 nu) (Fp.ofInt m))) (Fp.mul 0x40490FDB#32 (Fp.ofInt m)))
        (blackman i)
    let total := (List.range 510).foldl (fun acc j => Fp.add acc (p (j + 1))) (p 0)
    ∀ i, i < 511 → vget (lowPass fc fs) i 0 = Fp.div (p i) total ∧
      vget (highPass fc fs) i 0 = if i = 255 then Fp.sub 0x3F800000#32 (vget (lowPass fc fs) 255 0)
        else Fp.neg (vget (lowPass fc fs) i 0)) ∧
  (∀ b0 b1 b2 a0 a1 a2 : F32,
    norm b0 b1 b2 a0 a1 a2 = ⟨Fp.div b0 a0, Fp.div b1 a0, Fp.div b2 a0, Fp.div a1 a0, Fp.div a2 a0⟩) ∧
  (∀ f0 q fs : F32,
    let w := Fp.div (Fp.mul 0x40C90FDB#32 f0) fs
    let cs := Open.cos w
    let alpha := Fp.div (Open.sin w) (Fp.mul 0x40000000#32 q)
    let b := Fp.div (Fp.add 0x3F800000#32 cs) 0x40000000#32
    kwHighPass f0 q fs = norm b (Fp.neg (Fp.add 0x3F800000#32 cs)) b (Fp.add 0x3F800000#32 alpha)
      (Fp.mul 0xC0000000#32 cs) (Fp.sub 0x3F800000#32 alpha)) ∧
  (∀ f0 gdb q fs : F32,
    let a := Open.pow10 (Fp.div gdb 0x42200000#32)
    let w := Fp.div (Fp.mul 0x40C90FDB#32 f0) fs
    let cs := Open.cos w
    let alpha := Fp.div (Open.sin w) (Fp.mul 0x40000000#32 q)
    let r := Fp.mul (Fp.mul 0x40000000#32 (Fp.sqrt a)) alpha
    let up := Fp.add a 0x3F800000#32
    let down := Fp.sub a 0x3F800000#32
    kwShelf f0 gdb q fs = norm
      (Fp.mul a (Fp.add (Fp.add up (Fp.mul down cs)) r))
      (Fp.mul (Fp.mul 0xC0000000#32 a) (Fp.add down (Fp.mul up cs)))
      (Fp.mul a (Fp.sub (Fp.add up (Fp.mul down cs)) r))
      (Fp.add (Fp.sub up (Fp.mul down cs)) r)
      (Fp.mul 0x40000000#32 (Fp.sub down (Fp.mul up cs)))
      (Fp.sub (Fp.sub up (Fp.mul down cs)) r)) ∧
  ∀ tau fs : F32, tauCoeff tau fs = Open.exp (Fp.div 0xBF800000#32 (Fp.mul tau fs))
end

