-- ==== Sys2Proof/Laws/State.lean ====
section
/-!
SUPPORT. One lemma per field per update of the state, each true by unfolding, so that no later proof unfolds
a record update.
-/

namespace Sys2Proof.Machine

/-! ## `give` -/

@[simp] theorem give_done (w : Word) (s : State) : (give w s).done = s.done := rfl
@[simp] theorem give_err (w : Word) (s : State) : (give w s).err = s.err := rfl
@[simp] theorem give_nonfinite (w : Word) (s : State) : (give w s).nonfinite = s.nonfinite := rfl
@[simp] theorem give_pnan (w : Word) (s : State) : (give w s).pnan = s.pnan := rfl
@[simp] theorem give_specNew (w : Word) (s : State) : (give w s).specNew = s.specNew := rfl
@[simp] theorem give_prepared (w : Word) (s : State) : (give w s).prepared = s.prepared := rfl
@[simp] theorem give_errCode (w : Word) (s : State) : (give w s).errCode = s.errCode := rfl
@[simp] theorem give_errOvf (w : Word) (s : State) : (give w s).errOvf = s.errOvf := rfl
@[simp] theorem give_errInfo (w : Word) (s : State) : (give w s).errInfo = s.errInfo := rfl
@[simp] theorem give_irqEn (w : Word) (s : State) : (give w s).irqEn = s.irqEn := rfl
@[simp] theorem give_arg (w : Word) (s : State) : (give w s).arg = s.arg := rfl
@[simp] theorem give_result (w : Word) (s : State) : (give w s).result = s.result := rfl
@[simp] theorem give_cfg (w : Word) (s : State) : (give w s).cfg = s.cfg := rfl
@[simp] theorem give_prep (w : Word) (s : State) : (give w s).prep = s.prep := rfl
@[simp] theorem give_par (w : Word) (s : State) : (give w s).par = s.par := rfl
@[simp] theorem give_ws (w : Word) (s : State) : (give w s).ws = s.ws := rfl
@[simp] theorem give_peq (w : Word) (s : State) : (give w s).peq = s.peq := rfl
@[simp] theorem give_spa (w : Word) (s : State) : (give w s).spa = s.spa := rfl
@[simp] theorem give_fir (w : Word) (s : State) : (give w s).fir = s.fir := rfl
@[simp] theorem give_lm (w : Word) (s : State) : (give w s).lm = s.lm := rfl
@[simp] theorem give_run (w : Word) (s : State) : (give w s).run = s.run := rfl
@[simp] theorem give_nonf (w : Word) (s : State) : (give w s).nonf = s.nonf := rfl
@[simp] theorem give_mem (w : Word) (s : State) : (give w s).mem = s.mem := rfl
@[simp] theorem give_rdata (w : Word) (s : State) : (give w s).rdata = w := rfl
@[simp] theorem give_draws (w : Word) (s : State) : (give w s).draws = s.draws := rfl
@[simp] theorem give_inbox (w : Word) (s : State) : (give w s).inbox = s.inbox := rfl

/-! ## `clearError` -/

@[simp] theorem clearError_done (s : State) : (clearError s).done = s.done := rfl
@[simp] theorem clearError_err (s : State) : (clearError s).err = false := rfl
@[simp] theorem clearError_nonfinite (s : State) : (clearError s).nonfinite = s.nonfinite := rfl
@[simp] theorem clearError_pnan (s : State) : (clearError s).pnan = s.pnan := rfl
@[simp] theorem clearError_specNew (s : State) : (clearError s).specNew = s.specNew := rfl
@[simp] theorem clearError_prepared (s : State) : (clearError s).prepared = s.prepared := rfl
@[simp] theorem clearError_errCode (s : State) : (clearError s).errCode = .none := rfl
@[simp] theorem clearError_errOvf (s : State) : (clearError s).errOvf = false := rfl
@[simp] theorem clearError_errInfo (s : State) : (clearError s).errInfo = 0 := rfl
@[simp] theorem clearError_irqEn (s : State) : (clearError s).irqEn = s.irqEn := rfl
@[simp] theorem clearError_arg (s : State) : (clearError s).arg = s.arg := rfl
@[simp] theorem clearError_result (s : State) : (clearError s).result = s.result := rfl
@[simp] theorem clearError_cfg (s : State) : (clearError s).cfg = s.cfg := rfl
@[simp] theorem clearError_prep (s : State) : (clearError s).prep = s.prep := rfl
@[simp] theorem clearError_par (s : State) : (clearError s).par = s.par := rfl
@[simp] theorem clearError_ws (s : State) : (clearError s).ws = s.ws := rfl
@[simp] theorem clearError_peq (s : State) : (clearError s).peq = s.peq := rfl
@[simp] theorem clearError_spa (s : State) : (clearError s).spa = s.spa := rfl
@[simp] theorem clearError_fir (s : State) : (clearError s).fir = s.fir := rfl
@[simp] theorem clearError_lm (s : State) : (clearError s).lm = s.lm := rfl
@[simp] theorem clearError_run (s : State) : (clearError s).run = s.run := rfl
@[simp] theorem clearError_nonf (s : State) : (clearError s).nonf = s.nonf := rfl
@[simp] theorem clearError_mem (s : State) : (clearError s).mem = s.mem := rfl
@[simp] theorem clearError_rdata (s : State) : (clearError s).rdata = s.rdata := rfl
@[simp] theorem clearError_draws (s : State) : (clearError s).draws = s.draws := rfl
@[simp] theorem clearError_inbox (s : State) : (clearError s).inbox = s.inbox := rfl

/-! ## `accept` -/

@[simp] theorem accept_done (w : Word) (s : State) : (accept w s).done = false := rfl
@[simp] theorem accept_err (w : Word) (s : State) : (accept w s).err = s.err := rfl
@[simp] theorem accept_nonfinite (w : Word) (s : State) : (accept w s).nonfinite = s.nonfinite := rfl
@[simp] theorem accept_pnan (w : Word) (s : State) : (accept w s).pnan = s.pnan := rfl
@[simp] theorem accept_specNew (w : Word) (s : State) : (accept w s).specNew = s.specNew := rfl
@[simp] theorem accept_prepared (w : Word) (s : State) : (accept w s).prepared = s.prepared := rfl
@[simp] theorem accept_errCode (w : Word) (s : State) : (accept w s).errCode = s.errCode := rfl
@[simp] theorem accept_errOvf (w : Word) (s : State) : (accept w s).errOvf = s.errOvf := rfl
@[simp] theorem accept_errInfo (w : Word) (s : State) : (accept w s).errInfo = s.errInfo := rfl
@[simp] theorem accept_irqEn (w : Word) (s : State) : (accept w s).irqEn = s.irqEn := rfl
@[simp] theorem accept_arg (w : Word) (s : State) : (accept w s).arg = s.arg := rfl
@[simp] theorem accept_result (w : Word) (s : State) : (accept w s).result = s.result := rfl
@[simp] theorem accept_cfg (w : Word) (s : State) : (accept w s).cfg = s.cfg := rfl
@[simp] theorem accept_prep (w : Word) (s : State) : (accept w s).prep = s.prep := rfl
@[simp] theorem accept_par (w : Word) (s : State) : (accept w s).par = s.par := rfl
@[simp] theorem accept_ws (w : Word) (s : State) : (accept w s).ws = s.ws := rfl
@[simp] theorem accept_peq (w : Word) (s : State) : (accept w s).peq = s.peq := rfl
@[simp] theorem accept_spa (w : Word) (s : State) : (accept w s).spa = s.spa := rfl
@[simp] theorem accept_fir (w : Word) (s : State) : (accept w s).fir = s.fir := rfl
@[simp] theorem accept_lm (w : Word) (s : State) : (accept w s).lm = s.lm := rfl
@[simp] theorem accept_run (w : Word) (s : State) : (accept w s).run = some (running w s) := rfl
@[simp] theorem accept_nonf (w : Word) (s : State) : (accept w s).nonf = false := rfl
@[simp] theorem accept_mem (w : Word) (s : State) : (accept w s).mem = s.mem := rfl
@[simp] theorem accept_rdata (w : Word) (s : State) : (accept w s).rdata = s.rdata := rfl
@[simp] theorem accept_draws (w : Word) (s : State) : (accept w s).draws = s.draws := rfl
@[simp] theorem accept_inbox (w : Word) (s : State) : (accept w s).inbox = s.inbox := rfl

/-! ## `complete` -/

@[simp] theorem complete_done (s : State) : (complete s).done = true := rfl
@[simp] theorem complete_err (s : State) : (complete s).err = s.err := rfl
@[simp] theorem complete_nonfinite (s : State) : (complete s).nonfinite = (s.nonfinite || s.nonf) := rfl
@[simp] theorem complete_pnan (s : State) : (complete s).pnan = s.pnan := rfl
@[simp] theorem complete_specNew (s : State) : (complete s).specNew = s.specNew := rfl
@[simp] theorem complete_prepared (s : State) : (complete s).prepared = s.prepared := rfl
@[simp] theorem complete_errCode (s : State) : (complete s).errCode = s.errCode := rfl
@[simp] theorem complete_errOvf (s : State) : (complete s).errOvf = s.errOvf := rfl
@[simp] theorem complete_errInfo (s : State) : (complete s).errInfo = s.errInfo := rfl
@[simp] theorem complete_irqEn (s : State) : (complete s).irqEn = s.irqEn := rfl
@[simp] theorem complete_arg (s : State) : (complete s).arg = s.arg := rfl
@[simp] theorem complete_result (s : State) : (complete s).result = s.result := rfl
@[simp] theorem complete_cfg (s : State) : (complete s).cfg = s.cfg := rfl
@[simp] theorem complete_prep (s : State) : (complete s).prep = s.prep := rfl
@[simp] theorem complete_par (s : State) : (complete s).par = s.par := rfl
@[simp] theorem complete_ws (s : State) : (complete s).ws = s.ws := rfl
@[simp] theorem complete_peq (s : State) : (complete s).peq = s.peq := rfl
@[simp] theorem complete_spa (s : State) : (complete s).spa = s.spa := rfl
@[simp] theorem complete_fir (s : State) : (complete s).fir = s.fir := rfl
@[simp] theorem complete_lm (s : State) : (complete s).lm = s.lm := rfl
@[simp] theorem complete_run (s : State) : (complete s).run = none := rfl
@[simp] theorem complete_nonf (s : State) : (complete s).nonf = s.nonf := rfl
@[simp] theorem complete_mem (s : State) : (complete s).mem = s.mem := rfl
@[simp] theorem complete_rdata (s : State) : (complete s).rdata = s.rdata := rfl
@[simp] theorem complete_draws (s : State) : (complete s).draws = s.draws := rfl
@[simp] theorem complete_inbox (s : State) : (complete s).inbox = s.inbox := rfl

/-! ## `giveFree` -/

@[simp] theorem giveFree_done (s : State) : (giveFree s).done = s.done := rfl
@[simp] theorem giveFree_err (s : State) : (giveFree s).err = s.err := rfl
@[simp] theorem giveFree_nonfinite (s : State) : (giveFree s).nonfinite = s.nonfinite := rfl
@[simp] theorem giveFree_pnan (s : State) : (giveFree s).pnan = s.pnan := rfl
@[simp] theorem giveFree_specNew (s : State) : (giveFree s).specNew = s.specNew := rfl
@[simp] theorem giveFree_prepared (s : State) : (giveFree s).prepared = s.prepared := rfl
@[simp] theorem giveFree_errCode (s : State) : (giveFree s).errCode = s.errCode := rfl
@[simp] theorem giveFree_errOvf (s : State) : (giveFree s).errOvf = s.errOvf := rfl
@[simp] theorem giveFree_errInfo (s : State) : (giveFree s).errInfo = s.errInfo := rfl
@[simp] theorem giveFree_irqEn (s : State) : (giveFree s).irqEn = s.irqEn := rfl
@[simp] theorem giveFree_arg (s : State) : (giveFree s).arg = s.arg := rfl
@[simp] theorem giveFree_result (s : State) : (giveFree s).result = s.result := rfl
@[simp] theorem giveFree_cfg (s : State) : (giveFree s).cfg = s.cfg := rfl
@[simp] theorem giveFree_prep (s : State) : (giveFree s).prep = s.prep := rfl
@[simp] theorem giveFree_par (s : State) : (giveFree s).par = s.par := rfl
@[simp] theorem giveFree_ws (s : State) : (giveFree s).ws = s.ws := rfl
@[simp] theorem giveFree_peq (s : State) : (giveFree s).peq = s.peq := rfl
@[simp] theorem giveFree_spa (s : State) : (giveFree s).spa = s.spa := rfl
@[simp] theorem giveFree_fir (s : State) : (giveFree s).fir = s.fir := rfl
@[simp] theorem giveFree_lm (s : State) : (giveFree s).lm = s.lm := rfl
@[simp] theorem giveFree_run (s : State) : (giveFree s).run = s.run := rfl
@[simp] theorem giveFree_nonf (s : State) : (giveFree s).nonf = s.nonf := rfl
@[simp] theorem giveFree_mem (s : State) : (giveFree s).mem = s.mem := rfl
@[simp] theorem giveFree_rdata (s : State) : (giveFree s).rdata = Config.freeMonitor s.draws := rfl
@[simp] theorem giveFree_draws (s : State) : (giveFree s).draws = s.draws + 1 := rfl
@[simp] theorem giveFree_inbox (s : State) : (giveFree s).inbox = s.inbox := rfl

/-! ## `markWorked` -/

@[simp] theorem markWorked_done (r : Running) (s : State) : (markWorked r s).done = s.done := rfl
@[simp] theorem markWorked_err (r : Running) (s : State) : (markWorked r s).err = s.err := rfl
@[simp] theorem markWorked_nonfinite (r : Running) (s : State) : (markWorked r s).nonfinite = s.nonfinite := rfl
@[simp] theorem markWorked_pnan (r : Running) (s : State) : (markWorked r s).pnan = s.pnan := rfl
@[simp] theorem markWorked_specNew (r : Running) (s : State) : (markWorked r s).specNew = s.specNew := rfl
@[simp] theorem markWorked_prepared (r : Running) (s : State) : (markWorked r s).prepared = s.prepared := rfl
@[simp] theorem markWorked_errCode (r : Running) (s : State) : (markWorked r s).errCode = s.errCode := rfl
@[simp] theorem markWorked_errOvf (r : Running) (s : State) : (markWorked r s).errOvf = s.errOvf := rfl
@[simp] theorem markWorked_errInfo (r : Running) (s : State) : (markWorked r s).errInfo = s.errInfo := rfl
@[simp] theorem markWorked_irqEn (r : Running) (s : State) : (markWorked r s).irqEn = s.irqEn := rfl
@[simp] theorem markWorked_arg (r : Running) (s : State) : (markWorked r s).arg = s.arg := rfl
@[simp] theorem markWorked_result (r : Running) (s : State) : (markWorked r s).result = s.result := rfl
@[simp] theorem markWorked_cfg (r : Running) (s : State) : (markWorked r s).cfg = s.cfg := rfl
@[simp] theorem markWorked_prep (r : Running) (s : State) : (markWorked r s).prep = s.prep := rfl
@[simp] theorem markWorked_par (r : Running) (s : State) : (markWorked r s).par = s.par := rfl
@[simp] theorem markWorked_ws (r : Running) (s : State) : (markWorked r s).ws = s.ws := rfl
@[simp] theorem markWorked_peq (r : Running) (s : State) : (markWorked r s).peq = s.peq := rfl
@[simp] theorem markWorked_spa (r : Running) (s : State) : (markWorked r s).spa = s.spa := rfl
@[simp] theorem markWorked_fir (r : Running) (s : State) : (markWorked r s).fir = s.fir := rfl
@[simp] theorem markWorked_lm (r : Running) (s : State) : (markWorked r s).lm = s.lm := rfl
@[simp] theorem markWorked_run (r : Running) (s : State) :
    (markWorked r s).run = some { r with worked := true } := rfl
@[simp] theorem markWorked_nonf (r : Running) (s : State) : (markWorked r s).nonf = s.nonf := rfl
@[simp] theorem markWorked_mem (r : Running) (s : State) : (markWorked r s).mem = s.mem := rfl
@[simp] theorem markWorked_rdata (r : Running) (s : State) : (markWorked r s).rdata = s.rdata := rfl
@[simp] theorem markWorked_draws (r : Running) (s : State) : (markWorked r s).draws = s.draws := rfl
@[simp] theorem markWorked_inbox (r : Running) (s : State) : (markWorked r s).inbox = s.inbox := rfl

/-! ## `note` -/

@[simp] theorem note_done (xs : List F32) (s : State) : (note xs s).done = s.done := rfl
@[simp] theorem note_err (xs : List F32) (s : State) : (note xs s).err = s.err := rfl
@[simp] theorem note_nonfinite (xs : List F32) (s : State) : (note xs s).nonfinite = s.nonfinite := rfl
@[simp] theorem note_pnan (xs : List F32) (s : State) : (note xs s).pnan = s.pnan := rfl
@[simp] theorem note_specNew (xs : List F32) (s : State) : (note xs s).specNew = s.specNew := rfl
@[simp] theorem note_prepared (xs : List F32) (s : State) : (note xs s).prepared = s.prepared := rfl
@[simp] theorem note_errCode (xs : List F32) (s : State) : (note xs s).errCode = s.errCode := rfl
@[simp] theorem note_errOvf (xs : List F32) (s : State) : (note xs s).errOvf = s.errOvf := rfl
@[simp] theorem note_errInfo (xs : List F32) (s : State) : (note xs s).errInfo = s.errInfo := rfl
@[simp] theorem note_irqEn (xs : List F32) (s : State) : (note xs s).irqEn = s.irqEn := rfl
@[simp] theorem note_arg (xs : List F32) (s : State) : (note xs s).arg = s.arg := rfl
@[simp] theorem note_result (xs : List F32) (s : State) : (note xs s).result = s.result := rfl
@[simp] theorem note_cfg (xs : List F32) (s : State) : (note xs s).cfg = s.cfg := rfl
@[simp] theorem note_prep (xs : List F32) (s : State) : (note xs s).prep = s.prep := rfl
@[simp] theorem note_par (xs : List F32) (s : State) : (note xs s).par = s.par := rfl
@[simp] theorem note_ws (xs : List F32) (s : State) : (note xs s).ws = s.ws := rfl
@[simp] theorem note_peq (xs : List F32) (s : State) : (note xs s).peq = s.peq := rfl
@[simp] theorem note_spa (xs : List F32) (s : State) : (note xs s).spa = s.spa := rfl
@[simp] theorem note_fir (xs : List F32) (s : State) : (note xs s).fir = s.fir := rfl
@[simp] theorem note_lm (xs : List F32) (s : State) : (note xs s).lm = s.lm := rfl
@[simp] theorem note_run (xs : List F32) (s : State) : (note xs s).run = s.run := rfl
@[simp] theorem note_nonf (xs : List F32) (s : State) :
    (note xs s).nonf = (s.nonf || xs.any (fun x => !Fp.isFinite x)) := rfl
@[simp] theorem note_mem (xs : List F32) (s : State) : (note xs s).mem = s.mem := rfl
@[simp] theorem note_rdata (xs : List F32) (s : State) : (note xs s).rdata = s.rdata := rfl
@[simp] theorem note_draws (xs : List F32) (s : State) : (note xs s).draws = s.draws := rfl
@[simp] theorem note_inbox (xs : List F32) (s : State) : (note xs s).inbox = s.inbox := rfl

/-! ## `writeBlock` -/

@[simp] theorem writeBlock_done (c : Nat) (ys : List F32) (s : State) : (writeBlock c ys s).done = s.done := rfl
@[simp] theorem writeBlock_err (c : Nat) (ys : List F32) (s : State) : (writeBlock c ys s).err = s.err := rfl
@[simp] theorem writeBlock_nonfinite (c : Nat) (ys : List F32) (s : State) :
    (writeBlock c ys s).nonfinite = s.nonfinite := rfl
@[simp] theorem writeBlock_pnan (c : Nat) (ys : List F32) (s : State) : (writeBlock c ys s).pnan = s.pnan := rfl
@[simp] theorem writeBlock_specNew (c : Nat) (ys : List F32) (s : State) :
    (writeBlock c ys s).specNew = s.specNew := rfl
@[simp] theorem writeBlock_prepared (c : Nat) (ys : List F32) (s : State) :
    (writeBlock c ys s).prepared = s.prepared := rfl
@[simp] theorem writeBlock_errCode (c : Nat) (ys : List F32) (s : State) :
    (writeBlock c ys s).errCode = s.errCode := rfl
@[simp] theorem writeBlock_errOvf (c : Nat) (ys : List F32) (s : State) : (writeBlock c ys s).errOvf = s.errOvf := rfl
@[simp] theorem writeBlock_errInfo (c : Nat) (ys : List F32) (s : State) :
    (writeBlock c ys s).errInfo = s.errInfo := rfl
@[simp] theorem writeBlock_irqEn (c : Nat) (ys : List F32) (s : State) : (writeBlock c ys s).irqEn = s.irqEn := rfl
@[simp] theorem writeBlock_arg (c : Nat) (ys : List F32) (s : State) : (writeBlock c ys s).arg = s.arg := rfl
@[simp] theorem writeBlock_result (c : Nat) (ys : List F32) (s : State) : (writeBlock c ys s).result = s.result := rfl
@[simp] theorem writeBlock_cfg (c : Nat) (ys : List F32) (s : State) : (writeBlock c ys s).cfg = s.cfg := rfl
@[simp] theorem writeBlock_prep (c : Nat) (ys : List F32) (s : State) : (writeBlock c ys s).prep = s.prep := rfl
@[simp] theorem writeBlock_par (c : Nat) (ys : List F32) (s : State) : (writeBlock c ys s).par = s.par := rfl
@[simp] theorem writeBlock_ws (c : Nat) (ys : List F32) (s : State) : (writeBlock c ys s).ws = s.ws := rfl
@[simp] theorem writeBlock_peq (c : Nat) (ys : List F32) (s : State) : (writeBlock c ys s).peq = s.peq := rfl
@[simp] theorem writeBlock_spa (c : Nat) (ys : List F32) (s : State) : (writeBlock c ys s).spa = s.spa := rfl
@[simp] theorem writeBlock_fir (c : Nat) (ys : List F32) (s : State) : (writeBlock c ys s).fir = s.fir := rfl
@[simp] theorem writeBlock_lm (c : Nat) (ys : List F32) (s : State) : (writeBlock c ys s).lm = s.lm := rfl
@[simp] theorem writeBlock_run (c : Nat) (ys : List F32) (s : State) : (writeBlock c ys s).run = s.run := rfl
@[simp] theorem writeBlock_nonf (c : Nat) (ys : List F32) (s : State) : (writeBlock c ys s).nonf = s.nonf := rfl
@[simp] theorem writeBlock_mem (c : Nat) (ys : List F32) (s : State) :
    (writeBlock c ys s).mem = s.mem.writeWords (saddr c 0) ys := rfl
@[simp] theorem writeBlock_rdata (c : Nat) (ys : List F32) (s : State) : (writeBlock c ys s).rdata = s.rdata := rfl
@[simp] theorem writeBlock_draws (c : Nat) (ys : List F32) (s : State) : (writeBlock c ys s).draws = s.draws := rfl
@[simp] theorem writeBlock_inbox (c : Nat) (ys : List F32) (s : State) : (writeBlock c ys s).inbox = s.inbox := rfl

/-! ## `wsDerive` -/

@[simp] theorem wsDerive_done (s : State) : (wsDerive s).done = s.done := by unfold wsDerive; rfl
@[simp] theorem wsDerive_err (s : State) : (wsDerive s).err = s.err := by unfold wsDerive; rfl
@[simp] theorem wsDerive_nonfinite (s : State) : (wsDerive s).nonfinite = s.nonfinite := by unfold wsDerive; rfl
@[simp] theorem wsDerive_pnan (s : State) : (wsDerive s).pnan = s.pnan := by unfold wsDerive; rfl
@[simp] theorem wsDerive_specNew (s : State) : (wsDerive s).specNew = s.specNew := by unfold wsDerive; rfl
@[simp] theorem wsDerive_prepared (s : State) : (wsDerive s).prepared = s.prepared := by unfold wsDerive; rfl
@[simp] theorem wsDerive_errCode (s : State) : (wsDerive s).errCode = s.errCode := by unfold wsDerive; rfl
@[simp] theorem wsDerive_errOvf (s : State) : (wsDerive s).errOvf = s.errOvf := by unfold wsDerive; rfl
@[simp] theorem wsDerive_errInfo (s : State) : (wsDerive s).errInfo = s.errInfo := by unfold wsDerive; rfl
@[simp] theorem wsDerive_irqEn (s : State) : (wsDerive s).irqEn = s.irqEn := by unfold wsDerive; rfl
@[simp] theorem wsDerive_arg (s : State) : (wsDerive s).arg = s.arg := by unfold wsDerive; rfl
@[simp] theorem wsDerive_result (s : State) : (wsDerive s).result = s.result := by unfold wsDerive; rfl
@[simp] theorem wsDerive_cfg (s : State) : (wsDerive s).cfg = s.cfg := by unfold wsDerive; rfl
@[simp] theorem wsDerive_prep (s : State) : (wsDerive s).prep = s.prep := by unfold wsDerive; rfl
@[simp] theorem wsDerive_par (s : State) : (wsDerive s).par = s.par := by unfold wsDerive; rfl
@[simp] theorem wsDerive_peq (s : State) : (wsDerive s).peq = s.peq := by unfold wsDerive; rfl
@[simp] theorem wsDerive_spa (s : State) : (wsDerive s).spa = s.spa := by unfold wsDerive; rfl
@[simp] theorem wsDerive_fir (s : State) : (wsDerive s).fir = s.fir := by unfold wsDerive; rfl
@[simp] theorem wsDerive_lm (s : State) : (wsDerive s).lm = s.lm := by unfold wsDerive; rfl
@[simp] theorem wsDerive_run (s : State) : (wsDerive s).run = s.run := by unfold wsDerive; rfl
@[simp] theorem wsDerive_nonf (s : State) : (wsDerive s).nonf = s.nonf := by unfold wsDerive; rfl
@[simp] theorem wsDerive_mem (s : State) : (wsDerive s).mem = s.mem := by unfold wsDerive; rfl
@[simp] theorem wsDerive_rdata (s : State) : (wsDerive s).rdata = s.rdata := by unfold wsDerive; rfl
@[simp] theorem wsDerive_draws (s : State) : (wsDerive s).draws = s.draws := by unfold wsDerive; rfl
@[simp] theorem wsDerive_inbox (s : State) : (wsDerive s).inbox = s.inbox := by unfold wsDerive; rfl

/-! ## `wsResetState` -/

@[simp] theorem wsResetState_done (s : State) : (wsResetState s).done = s.done := by unfold wsResetState; rfl
@[simp] theorem wsResetState_err (s : State) : (wsResetState s).err = s.err := by unfold wsResetState; rfl
@[simp] theorem wsResetState_nonfinite (s : State) :
    (wsResetState s).nonfinite = s.nonfinite := by unfold wsResetState; rfl
@[simp] theorem wsResetState_pnan (s : State) : (wsResetState s).pnan = s.pnan := by unfold wsResetState; rfl
@[simp] theorem wsResetState_specNew (s : State) : (wsResetState s).specNew = s.specNew := by unfold wsResetState; rfl
@[simp] theorem wsResetState_prepared (s : State) :
    (wsResetState s).prepared = s.prepared := by unfold wsResetState; rfl
@[simp] theorem wsResetState_errCode (s : State) : (wsResetState s).errCode = s.errCode := by unfold wsResetState; rfl
@[simp] theorem wsResetState_errOvf (s : State) : (wsResetState s).errOvf = s.errOvf := by unfold wsResetState; rfl
@[simp] theorem wsResetState_errInfo (s : State) : (wsResetState s).errInfo = s.errInfo := by unfold wsResetState; rfl
@[simp] theorem wsResetState_irqEn (s : State) : (wsResetState s).irqEn = s.irqEn := by unfold wsResetState; rfl
@[simp] theorem wsResetState_arg (s : State) : (wsResetState s).arg = s.arg := by unfold wsResetState; rfl
@[simp] theorem wsResetState_result (s : State) : (wsResetState s).result = s.result := by unfold wsResetState; rfl
@[simp] theorem wsResetState_cfg (s : State) : (wsResetState s).cfg = s.cfg := by unfold wsResetState; rfl
@[simp] theorem wsResetState_prep (s : State) : (wsResetState s).prep = s.prep := by unfold wsResetState; rfl
@[simp] theorem wsResetState_par (s : State) : (wsResetState s).par = s.par := by unfold wsResetState; rfl
@[simp] theorem wsResetState_ws (s : State) :
    (wsResetState s).ws = { s.ws with chan := Vector.replicate Config.cMax WsChan.zero } := by unfold wsResetState; rfl
@[simp] theorem wsResetState_peq (s : State) : (wsResetState s).peq = s.peq := by unfold wsResetState; rfl
@[simp] theorem wsResetState_spa (s : State) : (wsResetState s).spa = s.spa := by unfold wsResetState; rfl
@[simp] theorem wsResetState_fir (s : State) : (wsResetState s).fir = s.fir := by unfold wsResetState; rfl
@[simp] theorem wsResetState_lm (s : State) : (wsResetState s).lm = s.lm := by unfold wsResetState; rfl
@[simp] theorem wsResetState_run (s : State) : (wsResetState s).run = s.run := by unfold wsResetState; rfl
@[simp] theorem wsResetState_nonf (s : State) : (wsResetState s).nonf = s.nonf := by unfold wsResetState; rfl
@[simp] theorem wsResetState_mem (s : State) : (wsResetState s).mem = s.mem := by unfold wsResetState; rfl
@[simp] theorem wsResetState_rdata (s : State) : (wsResetState s).rdata = s.rdata := by unfold wsResetState; rfl
@[simp] theorem wsResetState_draws (s : State) : (wsResetState s).draws = s.draws := by unfold wsResetState; rfl
@[simp] theorem wsResetState_inbox (s : State) : (wsResetState s).inbox = s.inbox := by unfold wsResetState; rfl

/-! ## `spaDerive` -/

@[simp] theorem spaDerive_done (s : State) : (spaDerive s).done = s.done := by unfold spaDerive; rfl
@[simp] theorem spaDerive_err (s : State) : (spaDerive s).err = s.err := by unfold spaDerive; rfl
@[simp] theorem spaDerive_nonfinite (s : State) : (spaDerive s).nonfinite = s.nonfinite := by unfold spaDerive; rfl
@[simp] theorem spaDerive_pnan (s : State) : (spaDerive s).pnan = s.pnan := by unfold spaDerive; rfl
@[simp] theorem spaDerive_specNew (s : State) : (spaDerive s).specNew = s.specNew := by unfold spaDerive; rfl
@[simp] theorem spaDerive_prepared (s : State) : (spaDerive s).prepared = s.prepared := by unfold spaDerive; rfl
@[simp] theorem spaDerive_errCode (s : State) : (spaDerive s).errCode = s.errCode := by unfold spaDerive; rfl
@[simp] theorem spaDerive_errOvf (s : State) : (spaDerive s).errOvf = s.errOvf := by unfold spaDerive; rfl
@[simp] theorem spaDerive_errInfo (s : State) : (spaDerive s).errInfo = s.errInfo := by unfold spaDerive; rfl
@[simp] theorem spaDerive_irqEn (s : State) : (spaDerive s).irqEn = s.irqEn := by unfold spaDerive; rfl
@[simp] theorem spaDerive_arg (s : State) : (spaDerive s).arg = s.arg := by unfold spaDerive; rfl
@[simp] theorem spaDerive_result (s : State) : (spaDerive s).result = s.result := by unfold spaDerive; rfl
@[simp] theorem spaDerive_cfg (s : State) : (spaDerive s).cfg = s.cfg := by unfold spaDerive; rfl
@[simp] theorem spaDerive_prep (s : State) : (spaDerive s).prep = s.prep := by unfold spaDerive; rfl
@[simp] theorem spaDerive_par (s : State) : (spaDerive s).par = s.par := by unfold spaDerive; rfl
@[simp] theorem spaDerive_ws (s : State) : (spaDerive s).ws = s.ws := by unfold spaDerive; rfl
@[simp] theorem spaDerive_peq (s : State) : (spaDerive s).peq = s.peq := by unfold spaDerive; rfl
@[simp] theorem spaDerive_fir (s : State) : (spaDerive s).fir = s.fir := by unfold spaDerive; rfl
@[simp] theorem spaDerive_lm (s : State) : (spaDerive s).lm = s.lm := by unfold spaDerive; rfl
@[simp] theorem spaDerive_run (s : State) : (spaDerive s).run = s.run := by unfold spaDerive; rfl
@[simp] theorem spaDerive_nonf (s : State) : (spaDerive s).nonf = s.nonf := by unfold spaDerive; rfl
@[simp] theorem spaDerive_mem (s : State) : (spaDerive s).mem = s.mem := by unfold spaDerive; rfl
@[simp] theorem spaDerive_rdata (s : State) : (spaDerive s).rdata = s.rdata := by unfold spaDerive; rfl
@[simp] theorem spaDerive_draws (s : State) : (spaDerive s).draws = s.draws := by unfold spaDerive; rfl
@[simp] theorem spaDerive_inbox (s : State) : (spaDerive s).inbox = s.inbox := by unfold spaDerive; rfl

/-! ## `spaResetState` -/

@[simp] theorem spaResetState_done (s : State) : (spaResetState s).done = s.done := by unfold spaResetState; rfl
@[simp] theorem spaResetState_err (s : State) : (spaResetState s).err = s.err := by unfold spaResetState; rfl
@[simp] theorem spaResetState_nonfinite (s : State) :
    (spaResetState s).nonfinite = s.nonfinite := by unfold spaResetState; rfl
@[simp] theorem spaResetState_pnan (s : State) : (spaResetState s).pnan = s.pnan := by unfold spaResetState; rfl
@[simp] theorem spaResetState_specNew (s : State) :
    (spaResetState s).specNew = s.specNew := by unfold spaResetState; rfl
@[simp] theorem spaResetState_prepared (s : State) :
    (spaResetState s).prepared = s.prepared := by unfold spaResetState; rfl
@[simp] theorem spaResetState_errCode (s : State) :
    (spaResetState s).errCode = s.errCode := by unfold spaResetState; rfl
@[simp] theorem spaResetState_errOvf (s : State) : (spaResetState s).errOvf = s.errOvf := by unfold spaResetState; rfl
@[simp] theorem spaResetState_errInfo (s : State) :
    (spaResetState s).errInfo = s.errInfo := by unfold spaResetState; rfl
@[simp] theorem spaResetState_irqEn (s : State) : (spaResetState s).irqEn = s.irqEn := by unfold spaResetState; rfl
@[simp] theorem spaResetState_arg (s : State) : (spaResetState s).arg = s.arg := by unfold spaResetState; rfl
@[simp] theorem spaResetState_result (s : State) : (spaResetState s).result = s.result := by unfold spaResetState; rfl
@[simp] theorem spaResetState_cfg (s : State) : (spaResetState s).cfg = s.cfg := by unfold spaResetState; rfl
@[simp] theorem spaResetState_prep (s : State) : (spaResetState s).prep = s.prep := by unfold spaResetState; rfl
@[simp] theorem spaResetState_par (s : State) : (spaResetState s).par = s.par := by unfold spaResetState; rfl
@[simp] theorem spaResetState_ws (s : State) : (spaResetState s).ws = s.ws := by unfold spaResetState; rfl
@[simp] theorem spaResetState_peq (s : State) : (spaResetState s).peq = s.peq := by unfold spaResetState; rfl
@[simp] theorem spaResetState_spa (s : State) : (spaResetState s).spa = spaClear s.spa := by unfold spaResetState; rfl
@[simp] theorem spaResetState_fir (s : State) : (spaResetState s).fir = s.fir := by unfold spaResetState; rfl
@[simp] theorem spaResetState_lm (s : State) : (spaResetState s).lm = s.lm := by unfold spaResetState; rfl
@[simp] theorem spaResetState_run (s : State) : (spaResetState s).run = s.run := by unfold spaResetState; rfl
@[simp] theorem spaResetState_nonf (s : State) : (spaResetState s).nonf = s.nonf := by unfold spaResetState; rfl
@[simp] theorem spaResetState_mem (s : State) : (spaResetState s).mem = s.mem := by unfold spaResetState; rfl
@[simp] theorem spaResetState_rdata (s : State) : (spaResetState s).rdata = s.rdata := by unfold spaResetState; rfl
@[simp] theorem spaResetState_draws (s : State) : (spaResetState s).draws = s.draws := by unfold spaResetState; rfl
@[simp] theorem spaResetState_inbox (s : State) : (spaResetState s).inbox = s.inbox := by unfold spaResetState; rfl

/-! ## `eqDerive` -/

@[simp] theorem eqDerive_done (s : State) : (eqDerive s).done = s.done := by unfold eqDerive; rfl
@[simp] theorem eqDerive_err (s : State) : (eqDerive s).err = s.err := by unfold eqDerive; rfl
@[simp] theorem eqDerive_nonfinite (s : State) : (eqDerive s).nonfinite = s.nonfinite := by unfold eqDerive; rfl
@[simp] theorem eqDerive_pnan (s : State) : (eqDerive s).pnan = s.pnan := by unfold eqDerive; rfl
@[simp] theorem eqDerive_specNew (s : State) : (eqDerive s).specNew = s.specNew := by unfold eqDerive; rfl
@[simp] theorem eqDerive_prepared (s : State) : (eqDerive s).prepared = s.prepared := by unfold eqDerive; rfl
@[simp] theorem eqDerive_errCode (s : State) : (eqDerive s).errCode = s.errCode := by unfold eqDerive; rfl
@[simp] theorem eqDerive_errOvf (s : State) : (eqDerive s).errOvf = s.errOvf := by unfold eqDerive; rfl
@[simp] theorem eqDerive_errInfo (s : State) : (eqDerive s).errInfo = s.errInfo := by unfold eqDerive; rfl
@[simp] theorem eqDerive_irqEn (s : State) : (eqDerive s).irqEn = s.irqEn := by unfold eqDerive; rfl
@[simp] theorem eqDerive_arg (s : State) : (eqDerive s).arg = s.arg := by unfold eqDerive; rfl
@[simp] theorem eqDerive_result (s : State) : (eqDerive s).result = s.result := by unfold eqDerive; rfl
@[simp] theorem eqDerive_cfg (s : State) : (eqDerive s).cfg = s.cfg := by unfold eqDerive; rfl
@[simp] theorem eqDerive_prep (s : State) : (eqDerive s).prep = s.prep := by unfold eqDerive; rfl
@[simp] theorem eqDerive_par (s : State) : (eqDerive s).par = s.par := by unfold eqDerive; rfl
@[simp] theorem eqDerive_ws (s : State) : (eqDerive s).ws = s.ws := by unfold eqDerive; rfl
@[simp] theorem eqDerive_spa (s : State) : (eqDerive s).spa = s.spa := by unfold eqDerive; rfl
@[simp] theorem eqDerive_fir (s : State) : (eqDerive s).fir = s.fir := by unfold eqDerive; rfl
@[simp] theorem eqDerive_lm (s : State) : (eqDerive s).lm = s.lm := by unfold eqDerive; rfl
@[simp] theorem eqDerive_run (s : State) : (eqDerive s).run = s.run := by unfold eqDerive; rfl
@[simp] theorem eqDerive_nonf (s : State) : (eqDerive s).nonf = s.nonf := by unfold eqDerive; rfl
@[simp] theorem eqDerive_mem (s : State) : (eqDerive s).mem = s.mem := by unfold eqDerive; rfl
@[simp] theorem eqDerive_rdata (s : State) : (eqDerive s).rdata = s.rdata := by unfold eqDerive; rfl
@[simp] theorem eqDerive_draws (s : State) : (eqDerive s).draws = s.draws := by unfold eqDerive; rfl
@[simp] theorem eqDerive_inbox (s : State) : (eqDerive s).inbox = s.inbox := by unfold eqDerive; rfl

/-! ## `peqResetState` -/

@[simp] theorem peqResetState_done (s : State) : (peqResetState s).done = s.done := by unfold peqResetState; rfl
@[simp] theorem peqResetState_err (s : State) : (peqResetState s).err = s.err := by unfold peqResetState; rfl
@[simp] theorem peqResetState_nonfinite (s : State) :
    (peqResetState s).nonfinite = s.nonfinite := by unfold peqResetState; rfl
@[simp] theorem peqResetState_pnan (s : State) : (peqResetState s).pnan = s.pnan := by unfold peqResetState; rfl
@[simp] theorem peqResetState_specNew (s : State) :
    (peqResetState s).specNew = s.specNew := by unfold peqResetState; rfl
@[simp] theorem peqResetState_prepared (s : State) :
    (peqResetState s).prepared = s.prepared := by unfold peqResetState; rfl
@[simp] theorem peqResetState_errCode (s : State) :
    (peqResetState s).errCode = s.errCode := by unfold peqResetState; rfl
@[simp] theorem peqResetState_errOvf (s : State) : (peqResetState s).errOvf = s.errOvf := by unfold peqResetState; rfl
@[simp] theorem peqResetState_errInfo (s : State) :
    (peqResetState s).errInfo = s.errInfo := by unfold peqResetState; rfl
@[simp] theorem peqResetState_irqEn (s : State) : (peqResetState s).irqEn = s.irqEn := by unfold peqResetState; rfl
@[simp] theorem peqResetState_arg (s : State) : (peqResetState s).arg = s.arg := by unfold peqResetState; rfl
@[simp] theorem peqResetState_result (s : State) : (peqResetState s).result = s.result := by unfold peqResetState; rfl
@[simp] theorem peqResetState_cfg (s : State) : (peqResetState s).cfg = s.cfg := by unfold peqResetState; rfl
@[simp] theorem peqResetState_prep (s : State) : (peqResetState s).prep = s.prep := by unfold peqResetState; rfl
@[simp] theorem peqResetState_par (s : State) : (peqResetState s).par = s.par := by unfold peqResetState; rfl
@[simp] theorem peqResetState_ws (s : State) : (peqResetState s).ws = s.ws := by unfold peqResetState; rfl
@[simp] theorem peqResetState_spa (s : State) : (peqResetState s).spa = s.spa := by unfold peqResetState; rfl
@[simp] theorem peqResetState_fir (s : State) : (peqResetState s).fir = s.fir := by unfold peqResetState; rfl
@[simp] theorem peqResetState_lm (s : State) : (peqResetState s).lm = s.lm := by unfold peqResetState; rfl
@[simp] theorem peqResetState_run (s : State) : (peqResetState s).run = s.run := by unfold peqResetState; rfl
@[simp] theorem peqResetState_nonf (s : State) : (peqResetState s).nonf = s.nonf := by unfold peqResetState; rfl
@[simp] theorem peqResetState_mem (s : State) : (peqResetState s).mem = s.mem := by unfold peqResetState; rfl
@[simp] theorem peqResetState_rdata (s : State) : (peqResetState s).rdata = s.rdata := by unfold peqResetState; rfl
@[simp] theorem peqResetState_draws (s : State) : (peqResetState s).draws = s.draws := by unfold peqResetState; rfl
@[simp] theorem peqResetState_inbox (s : State) : (peqResetState s).inbox = s.inbox := by unfold peqResetState; rfl

/-! ## `firDerive` -/

@[simp] theorem firDerive_done (par : Params) (inst : Nat) (s : State) :
    (firDerive par inst s).done = s.done := by unfold firDerive; rfl
@[simp] theorem firDerive_err (par : Params) (inst : Nat) (s : State) :
    (firDerive par inst s).err = s.err := by unfold firDerive; rfl
@[simp] theorem firDerive_nonfinite (par : Params) (inst : Nat) (s : State) :
    (firDerive par inst s).nonfinite = s.nonfinite := by unfold firDerive; rfl
@[simp] theorem firDerive_pnan (par : Params) (inst : Nat) (s : State) :
    (firDerive par inst s).pnan = s.pnan := by unfold firDerive; rfl
@[simp] theorem firDerive_specNew (par : Params) (inst : Nat) (s : State) :
    (firDerive par inst s).specNew = s.specNew := by unfold firDerive; rfl
@[simp] theorem firDerive_prepared (par : Params) (inst : Nat) (s : State) :
    (firDerive par inst s).prepared = s.prepared := by unfold firDerive; rfl
@[simp] theorem firDerive_errCode (par : Params) (inst : Nat) (s : State) :
    (firDerive par inst s).errCode = s.errCode := by unfold firDerive; rfl
@[simp] theorem firDerive_errOvf (par : Params) (inst : Nat) (s : State) :
    (firDerive par inst s).errOvf = s.errOvf := by unfold firDerive; rfl
@[simp] theorem firDerive_errInfo (par : Params) (inst : Nat) (s : State) :
    (firDerive par inst s).errInfo = s.errInfo := by unfold firDerive; rfl
@[simp] theorem firDerive_irqEn (par : Params) (inst : Nat) (s : State) :
    (firDerive par inst s).irqEn = s.irqEn := by unfold firDerive; rfl
@[simp] theorem firDerive_arg (par : Params) (inst : Nat) (s : State) :
    (firDerive par inst s).arg = s.arg := by unfold firDerive; rfl
@[simp] theorem firDerive_result (par : Params) (inst : Nat) (s : State) :
    (firDerive par inst s).result = s.result := by unfold firDerive; rfl
@[simp] theorem firDerive_cfg (par : Params) (inst : Nat) (s : State) :
    (firDerive par inst s).cfg = s.cfg := by unfold firDerive; rfl
@[simp] theorem firDerive_prep (par : Params) (inst : Nat) (s : State) :
    (firDerive par inst s).prep = s.prep := by unfold firDerive; rfl
@[simp] theorem firDerive_par (par : Params) (inst : Nat) (s : State) :
    (firDerive par inst s).par = s.par := by unfold firDerive; rfl
@[simp] theorem firDerive_ws (par : Params) (inst : Nat) (s : State) :
    (firDerive par inst s).ws = s.ws := by unfold firDerive; rfl
@[simp] theorem firDerive_peq (par : Params) (inst : Nat) (s : State) :
    (firDerive par inst s).peq = s.peq := by unfold firDerive; rfl
@[simp] theorem firDerive_spa (par : Params) (inst : Nat) (s : State) :
    (firDerive par inst s).spa = s.spa := by unfold firDerive; rfl
@[simp] theorem firDerive_lm (par : Params) (inst : Nat) (s : State) :
    (firDerive par inst s).lm = s.lm := by unfold firDerive; rfl
@[simp] theorem firDerive_run (par : Params) (inst : Nat) (s : State) :
    (firDerive par inst s).run = s.run := by unfold firDerive; rfl
@[simp] theorem firDerive_nonf (par : Params) (inst : Nat) (s : State) :
    (firDerive par inst s).nonf = s.nonf := by unfold firDerive; rfl
@[simp] theorem firDerive_mem (par : Params) (inst : Nat) (s : State) :
    (firDerive par inst s).mem = s.mem := by unfold firDerive; rfl
@[simp] theorem firDerive_rdata (par : Params) (inst : Nat) (s : State) :
    (firDerive par inst s).rdata = s.rdata := by unfold firDerive; rfl
@[simp] theorem firDerive_draws (par : Params) (inst : Nat) (s : State) :
    (firDerive par inst s).draws = s.draws := by unfold firDerive; rfl
@[simp] theorem firDerive_inbox (par : Params) (inst : Nat) (s : State) :
    (firDerive par inst s).inbox = s.inbox := by unfold firDerive; rfl

/-! ## `firResetState` -/

@[simp] theorem firResetState_done (inst : Nat) (s : State) :
    (firResetState inst s).done = s.done := by unfold firResetState; rfl
@[simp] theorem firResetState_err (inst : Nat) (s : State) :
    (firResetState inst s).err = s.err := by unfold firResetState; rfl
@[simp] theorem firResetState_nonfinite (inst : Nat) (s : State) :
    (firResetState inst s).nonfinite = s.nonfinite := by unfold firResetState; rfl
@[simp] theorem firResetState_pnan (inst : Nat) (s : State) :
    (firResetState inst s).pnan = s.pnan := by unfold firResetState; rfl
@[simp] theorem firResetState_specNew (inst : Nat) (s : State) :
    (firResetState inst s).specNew = s.specNew := by unfold firResetState; rfl
@[simp] theorem firResetState_prepared (inst : Nat) (s : State) :
    (firResetState inst s).prepared = s.prepared := by unfold firResetState; rfl
@[simp] theorem firResetState_errCode (inst : Nat) (s : State) :
    (firResetState inst s).errCode = s.errCode := by unfold firResetState; rfl
@[simp] theorem firResetState_errOvf (inst : Nat) (s : State) :
    (firResetState inst s).errOvf = s.errOvf := by unfold firResetState; rfl
@[simp] theorem firResetState_errInfo (inst : Nat) (s : State) :
    (firResetState inst s).errInfo = s.errInfo := by unfold firResetState; rfl
@[simp] theorem firResetState_irqEn (inst : Nat) (s : State) :
    (firResetState inst s).irqEn = s.irqEn := by unfold firResetState; rfl
@[simp] theorem firResetState_arg (inst : Nat) (s : State) :
    (firResetState inst s).arg = s.arg := by unfold firResetState; rfl
@[simp] theorem firResetState_result (inst : Nat) (s : State) :
    (firResetState inst s).result = s.result := by unfold firResetState; rfl
@[simp] theorem firResetState_cfg (inst : Nat) (s : State) :
    (firResetState inst s).cfg = s.cfg := by unfold firResetState; rfl
@[simp] theorem firResetState_prep (inst : Nat) (s : State) :
    (firResetState inst s).prep = s.prep := by unfold firResetState; rfl
@[simp] theorem firResetState_par (inst : Nat) (s : State) :
    (firResetState inst s).par = s.par := by unfold firResetState; rfl
@[simp] theorem firResetState_ws (inst : Nat) (s : State) :
    (firResetState inst s).ws = s.ws := by unfold firResetState; rfl
@[simp] theorem firResetState_peq (inst : Nat) (s : State) :
    (firResetState inst s).peq = s.peq := by unfold firResetState; rfl
@[simp] theorem firResetState_spa (inst : Nat) (s : State) :
    (firResetState inst s).spa = s.spa := by unfold firResetState; rfl
@[simp] theorem firResetState_lm (inst : Nat) (s : State) :
    (firResetState inst s).lm = s.lm := by unfold firResetState; rfl
@[simp] theorem firResetState_run (inst : Nat) (s : State) :
    (firResetState inst s).run = s.run := by unfold firResetState; rfl
@[simp] theorem firResetState_nonf (inst : Nat) (s : State) :
    (firResetState inst s).nonf = s.nonf := by unfold firResetState; rfl
@[simp] theorem firResetState_mem (inst : Nat) (s : State) :
    (firResetState inst s).mem = s.mem := by unfold firResetState; rfl
@[simp] theorem firResetState_rdata (inst : Nat) (s : State) :
    (firResetState inst s).rdata = s.rdata := by unfold firResetState; rfl
@[simp] theorem firResetState_draws (inst : Nat) (s : State) :
    (firResetState inst s).draws = s.draws := by unfold firResetState; rfl
@[simp] theorem firResetState_inbox (inst : Nat) (s : State) :
    (firResetState inst s).inbox = s.inbox := by unfold firResetState; rfl

/-! ## `lmDerive` -/

@[simp] theorem lmDerive_done (s : State) : (lmDerive s).done = s.done := by unfold lmDerive; rfl
@[simp] theorem lmDerive_err (s : State) : (lmDerive s).err = s.err := by unfold lmDerive; rfl
@[simp] theorem lmDerive_nonfinite (s : State) : (lmDerive s).nonfinite = s.nonfinite := by unfold lmDerive; rfl
@[simp] theorem lmDerive_pnan (s : State) : (lmDerive s).pnan = s.pnan := by unfold lmDerive; rfl
@[simp] theorem lmDerive_specNew (s : State) : (lmDerive s).specNew = s.specNew := by unfold lmDerive; rfl
@[simp] theorem lmDerive_prepared (s : State) : (lmDerive s).prepared = s.prepared := by unfold lmDerive; rfl
@[simp] theorem lmDerive_errCode (s : State) : (lmDerive s).errCode = s.errCode := by unfold lmDerive; rfl
@[simp] theorem lmDerive_errOvf (s : State) : (lmDerive s).errOvf = s.errOvf := by unfold lmDerive; rfl
@[simp] theorem lmDerive_errInfo (s : State) : (lmDerive s).errInfo = s.errInfo := by unfold lmDerive; rfl
@[simp] theorem lmDerive_irqEn (s : State) : (lmDerive s).irqEn = s.irqEn := by unfold lmDerive; rfl
@[simp] theorem lmDerive_arg (s : State) : (lmDerive s).arg = s.arg := by unfold lmDerive; rfl
@[simp] theorem lmDerive_result (s : State) : (lmDerive s).result = s.result := by unfold lmDerive; rfl
@[simp] theorem lmDerive_cfg (s : State) : (lmDerive s).cfg = s.cfg := by unfold lmDerive; rfl
@[simp] theorem lmDerive_prep (s : State) : (lmDerive s).prep = s.prep := by unfold lmDerive; rfl
@[simp] theorem lmDerive_par (s : State) : (lmDerive s).par = s.par := by unfold lmDerive; rfl
@[simp] theorem lmDerive_ws (s : State) : (lmDerive s).ws = s.ws := by unfold lmDerive; rfl
@[simp] theorem lmDerive_peq (s : State) : (lmDerive s).peq = s.peq := by unfold lmDerive; rfl
@[simp] theorem lmDerive_spa (s : State) : (lmDerive s).spa = s.spa := by unfold lmDerive; rfl
@[simp] theorem lmDerive_fir (s : State) : (lmDerive s).fir = s.fir := by unfold lmDerive; rfl
@[simp] theorem lmDerive_run (s : State) : (lmDerive s).run = s.run := by unfold lmDerive; rfl
@[simp] theorem lmDerive_nonf (s : State) : (lmDerive s).nonf = s.nonf := by unfold lmDerive; rfl
@[simp] theorem lmDerive_mem (s : State) : (lmDerive s).mem = s.mem := by unfold lmDerive; rfl
@[simp] theorem lmDerive_rdata (s : State) : (lmDerive s).rdata = s.rdata := by unfold lmDerive; rfl
@[simp] theorem lmDerive_draws (s : State) : (lmDerive s).draws = s.draws := by unfold lmDerive; rfl
@[simp] theorem lmDerive_inbox (s : State) : (lmDerive s).inbox = s.inbox := by unfold lmDerive; rfl

/-! ## `lmResetState` -/

@[simp] theorem lmResetState_done (s : State) : (lmResetState s).done = s.done := by unfold lmResetState; rfl
@[simp] theorem lmResetState_err (s : State) : (lmResetState s).err = s.err := by unfold lmResetState; rfl
@[simp] theorem lmResetState_nonfinite (s : State) :
    (lmResetState s).nonfinite = s.nonfinite := by unfold lmResetState; rfl
@[simp] theorem lmResetState_pnan (s : State) : (lmResetState s).pnan = s.pnan := by unfold lmResetState; rfl
@[simp] theorem lmResetState_specNew (s : State) : (lmResetState s).specNew = s.specNew := by unfold lmResetState; rfl
@[simp] theorem lmResetState_prepared (s : State) :
    (lmResetState s).prepared = s.prepared := by unfold lmResetState; rfl
@[simp] theorem lmResetState_errCode (s : State) : (lmResetState s).errCode = s.errCode := by unfold lmResetState; rfl
@[simp] theorem lmResetState_errOvf (s : State) : (lmResetState s).errOvf = s.errOvf := by unfold lmResetState; rfl
@[simp] theorem lmResetState_errInfo (s : State) : (lmResetState s).errInfo = s.errInfo := by unfold lmResetState; rfl
@[simp] theorem lmResetState_irqEn (s : State) : (lmResetState s).irqEn = s.irqEn := by unfold lmResetState; rfl
@[simp] theorem lmResetState_arg (s : State) : (lmResetState s).arg = s.arg := by unfold lmResetState; rfl
@[simp] theorem lmResetState_result (s : State) : (lmResetState s).result = s.result := by unfold lmResetState; rfl
@[simp] theorem lmResetState_cfg (s : State) : (lmResetState s).cfg = s.cfg := by unfold lmResetState; rfl
@[simp] theorem lmResetState_prep (s : State) : (lmResetState s).prep = s.prep := by unfold lmResetState; rfl
@[simp] theorem lmResetState_par (s : State) : (lmResetState s).par = s.par := by unfold lmResetState; rfl
@[simp] theorem lmResetState_ws (s : State) : (lmResetState s).ws = s.ws := by unfold lmResetState; rfl
@[simp] theorem lmResetState_peq (s : State) : (lmResetState s).peq = s.peq := by unfold lmResetState; rfl
@[simp] theorem lmResetState_spa (s : State) : (lmResetState s).spa = s.spa := by unfold lmResetState; rfl
@[simp] theorem lmResetState_fir (s : State) : (lmResetState s).fir = s.fir := by unfold lmResetState; rfl
@[simp] theorem lmResetState_lm (s : State) : (lmResetState s).lm = lmClear s.lm := by unfold lmResetState; rfl
@[simp] theorem lmResetState_run (s : State) : (lmResetState s).run = s.run := by unfold lmResetState; rfl
@[simp] theorem lmResetState_nonf (s : State) : (lmResetState s).nonf = s.nonf := by unfold lmResetState; rfl
@[simp] theorem lmResetState_mem (s : State) : (lmResetState s).mem = s.mem := by unfold lmResetState; rfl
@[simp] theorem lmResetState_rdata (s : State) : (lmResetState s).rdata = s.rdata := by unfold lmResetState; rfl
@[simp] theorem lmResetState_draws (s : State) : (lmResetState s).draws = s.draws := by unfold lmResetState; rfl
@[simp] theorem lmResetState_inbox (s : State) : (lmResetState s).inbox = s.inbox := by unfold lmResetState; rfl

end Sys2Proof.Machine
end

