-- ==== Sys2Proof/Laws/Frame.lean ====
section
/-!
SUPPORT. What each shared operation and each command's rule leaves unchanged: one lemma per operation, for every
field it does not write.
-/

namespace Sys2Proof.Machine

/-- A field every pass of a loop keeps, the loop keeps. -/
theorem each_field {σ β : Type} {n : Nat} {f : Nat → σ → σ} {g : σ → β} (h : ∀ i s, g (f i s) = g s) (s : σ) :
    g (each n f s) = g s := by
  have key : ∀ (l : List Nat) (s : σ), g (l.foldl (fun t i => f i t) s) = g s := by
    intro l
    induction l with
    | nil => intro s; rfl
    | cons i l ih => intro s; rw [List.foldl_cons, ih, h]
  exact key _ s

/-- What every pass of a loop keeps true, the loop keeps true. -/
theorem each_keeps {σ : Type} {n : Nat} {f : Nat → σ → σ} {p : σ → Prop} (h : ∀ i s, i < n → p s → p (f i s)) {s : σ}
    (hs : p s) : p (each n f s) := by
  have key : ∀ (l : List Nat), (∀ i ∈ l, i < n) → ∀ s : σ, p s → p (l.foldl (fun t i => f i t) s) := by
    intro l
    induction l with
    | nil => intro _ s hs; exact hs
    | cons i l ih =>
      intro hl s hs
      exact ih (fun j hj => hl j (List.mem_cons_of_mem _ hj)) _ (h i s (hl i List.mem_cons_self) hs)
  exact key _ (fun i hi => List.mem_range.1 hi) s hs

@[simp] theorem raise_frame (k : ErrKind) (info : Word) (s : State) :
    (raise k info s).done = s.done ∧ (raise k info s).nonfinite = s.nonfinite ∧ (raise k info s).pnan = s.pnan ∧
    (raise k info s).specNew = s.specNew ∧ (raise k info s).prepared = s.prepared ∧ (raise k info s).irqEn = s.irqEn ∧
    (raise k info s).arg = s.arg ∧ (raise k info s).result = s.result ∧ (raise k info s).cfg = s.cfg ∧
    (raise k info s).prep = s.prep ∧ (raise k info s).par = s.par ∧ (raise k info s).ws = s.ws ∧
    (raise k info s).peq = s.peq ∧ (raise k info s).spa = s.spa ∧ (raise k info s).fir = s.fir ∧
    (raise k info s).lm = s.lm ∧ (raise k info s).run = s.run ∧ (raise k info s).nonf = s.nonf ∧
    (raise k info s).mem = s.mem ∧ (raise k info s).rdata = s.rdata ∧ (raise k info s).draws = s.draws ∧
    (raise k info s).inbox = s.inbox := by
  unfold raise; split <;> simp

@[simp] theorem refuse_frame (w : Bool) (k : ErrKind) (a : Word) (s : State) :
    (refuse w k a s).done = s.done ∧ (refuse w k a s).nonfinite = s.nonfinite ∧ (refuse w k a s).pnan = s.pnan ∧
    (refuse w k a s).specNew = s.specNew ∧ (refuse w k a s).prepared = s.prepared ∧ (refuse w k a s).irqEn = s.irqEn ∧
    (refuse w k a s).arg = s.arg ∧ (refuse w k a s).result = s.result ∧ (refuse w k a s).cfg = s.cfg ∧
    (refuse w k a s).prep = s.prep ∧ (refuse w k a s).par = s.par ∧ (refuse w k a s).ws = s.ws ∧
    (refuse w k a s).peq = s.peq ∧ (refuse w k a s).spa = s.spa ∧ (refuse w k a s).fir = s.fir ∧
    (refuse w k a s).lm = s.lm ∧ (refuse w k a s).run = s.run ∧ (refuse w k a s).nonf = s.nonf ∧
    (refuse w k a s).mem = s.mem ∧ (refuse w k a s).draws = s.draws ∧ (refuse w k a s).inbox = s.inbox := by
  unfold refuse; cases w <;> simp

@[simp] theorem rejectAccess_frame (r : Reject) (a : Access) (s : State) :
    (rejectAccess r a s).done = s.done ∧ (rejectAccess r a s).nonfinite = s.nonfinite ∧ (rejectAccess r a s).pnan = s.pnan ∧
    (rejectAccess r a s).specNew = s.specNew ∧ (rejectAccess r a s).prepared = s.prepared ∧ (rejectAccess r a s).irqEn = s.irqEn ∧
    (rejectAccess r a s).arg = s.arg ∧ (rejectAccess r a s).result = s.result ∧ (rejectAccess r a s).cfg = s.cfg ∧
    (rejectAccess r a s).prep = s.prep ∧ (rejectAccess r a s).par = s.par ∧ (rejectAccess r a s).ws = s.ws ∧
    (rejectAccess r a s).peq = s.peq ∧ (rejectAccess r a s).spa = s.spa ∧ (rejectAccess r a s).fir = s.fir ∧
    (rejectAccess r a s).lm = s.lm ∧ (rejectAccess r a s).run = s.run ∧ (rejectAccess r a s).nonf = s.nonf ∧
    (rejectAccess r a s).mem = s.mem ∧ (rejectAccess r a s).draws = s.draws ∧ (rejectAccess r a s).inbox = s.inbox := by
  cases a <;> simp [rejectAccess]

@[simp] theorem writeFloat_frame (f : F32 → Params → Params) (lo hi : F32) (w : Word) (s : State) :
    (writeFloat f lo hi w s).done = s.done ∧ (writeFloat f lo hi w s).err = s.err ∧ (writeFloat f lo hi w s).nonfinite = s.nonfinite ∧
    (writeFloat f lo hi w s).specNew = s.specNew ∧ (writeFloat f lo hi w s).prepared = s.prepared ∧ (writeFloat f lo hi w s).errCode = s.errCode ∧
    (writeFloat f lo hi w s).errOvf = s.errOvf ∧ (writeFloat f lo hi w s).errInfo = s.errInfo ∧ (writeFloat f lo hi w s).irqEn = s.irqEn ∧
    (writeFloat f lo hi w s).arg = s.arg ∧ (writeFloat f lo hi w s).result = s.result ∧ (writeFloat f lo hi w s).cfg = s.cfg ∧
    (writeFloat f lo hi w s).prep = s.prep ∧ (writeFloat f lo hi w s).ws = s.ws ∧ (writeFloat f lo hi w s).peq = s.peq ∧
    (writeFloat f lo hi w s).spa = s.spa ∧ (writeFloat f lo hi w s).fir = s.fir ∧ (writeFloat f lo hi w s).lm = s.lm ∧
    (writeFloat f lo hi w s).run = s.run ∧ (writeFloat f lo hi w s).nonf = s.nonf ∧ (writeFloat f lo hi w s).mem = s.mem ∧
    (writeFloat f lo hi w s).rdata = s.rdata ∧ (writeFloat f lo hi w s).draws = s.draws ∧ (writeFloat f lo hi w s).inbox = s.inbox := by
  unfold writeFloat; split <;> simp

@[simp] theorem writeCutoff_frame (f : F32 → Params → Params) (w : Word) (s : State) :
    (writeCutoff f w s).done = s.done ∧ (writeCutoff f w s).err = s.err ∧ (writeCutoff f w s).nonfinite = s.nonfinite ∧
    (writeCutoff f w s).specNew = s.specNew ∧ (writeCutoff f w s).prepared = s.prepared ∧ (writeCutoff f w s).errCode = s.errCode ∧
    (writeCutoff f w s).errOvf = s.errOvf ∧ (writeCutoff f w s).errInfo = s.errInfo ∧ (writeCutoff f w s).irqEn = s.irqEn ∧
    (writeCutoff f w s).arg = s.arg ∧ (writeCutoff f w s).result = s.result ∧ (writeCutoff f w s).cfg = s.cfg ∧
    (writeCutoff f w s).prep = s.prep ∧ (writeCutoff f w s).ws = s.ws ∧ (writeCutoff f w s).peq = s.peq ∧
    (writeCutoff f w s).spa = s.spa ∧ (writeCutoff f w s).fir = s.fir ∧ (writeCutoff f w s).lm = s.lm ∧
    (writeCutoff f w s).run = s.run ∧ (writeCutoff f w s).nonf = s.nonf ∧ (writeCutoff f w s).mem = s.mem ∧
    (writeCutoff f w s).rdata = s.rdata ∧ (writeCutoff f w s).draws = s.draws ∧ (writeCutoff f w s).inbox = s.inbox := by
  unfold writeCutoff; split <;> simp

@[simp] theorem writeInt_frame (f : Word → Params → Params) (hi : Nat) (w : Word) (s : State) :
    (writeInt f hi w s).done = s.done ∧ (writeInt f hi w s).err = s.err ∧ (writeInt f hi w s).nonfinite = s.nonfinite ∧
    (writeInt f hi w s).pnan = s.pnan ∧ (writeInt f hi w s).specNew = s.specNew ∧ (writeInt f hi w s).prepared = s.prepared ∧
    (writeInt f hi w s).errCode = s.errCode ∧ (writeInt f hi w s).errOvf = s.errOvf ∧ (writeInt f hi w s).errInfo = s.errInfo ∧
    (writeInt f hi w s).irqEn = s.irqEn ∧ (writeInt f hi w s).arg = s.arg ∧ (writeInt f hi w s).result = s.result ∧
    (writeInt f hi w s).cfg = s.cfg ∧ (writeInt f hi w s).prep = s.prep ∧ (writeInt f hi w s).ws = s.ws ∧
    (writeInt f hi w s).peq = s.peq ∧ (writeInt f hi w s).spa = s.spa ∧ (writeInt f hi w s).fir = s.fir ∧
    (writeInt f hi w s).lm = s.lm ∧ (writeInt f hi w s).run = s.run ∧ (writeInt f hi w s).nonf = s.nonf ∧
    (writeInt f hi w s).mem = s.mem ∧ (writeInt f hi w s).rdata = s.rdata ∧ (writeInt f hi w s).draws = s.draws ∧
    (writeInt f hi w s).inbox = s.inbox := by
  simp [writeInt]

@[simp] theorem writeBool_frame (f : Word → Params → Params) (w : Word) (s : State) :
    (writeBool f w s).done = s.done ∧ (writeBool f w s).err = s.err ∧ (writeBool f w s).nonfinite = s.nonfinite ∧
    (writeBool f w s).pnan = s.pnan ∧ (writeBool f w s).specNew = s.specNew ∧ (writeBool f w s).prepared = s.prepared ∧
    (writeBool f w s).errCode = s.errCode ∧ (writeBool f w s).errOvf = s.errOvf ∧ (writeBool f w s).errInfo = s.errInfo ∧
    (writeBool f w s).irqEn = s.irqEn ∧ (writeBool f w s).arg = s.arg ∧ (writeBool f w s).result = s.result ∧
    (writeBool f w s).cfg = s.cfg ∧ (writeBool f w s).prep = s.prep ∧ (writeBool f w s).ws = s.ws ∧
    (writeBool f w s).peq = s.peq ∧ (writeBool f w s).spa = s.spa ∧ (writeBool f w s).fir = s.fir ∧
    (writeBool f w s).lm = s.lm ∧ (writeBool f w s).run = s.run ∧ (writeBool f w s).nonf = s.nonf ∧
    (writeBool f w s).mem = s.mem ∧ (writeBool f w s).rdata = s.rdata ∧ (writeBool f w s).draws = s.draws ∧
    (writeBool f w s).inbox = s.inbox := by
  simp [writeBool]

@[simp] theorem clearStatus_frame (w : Word) (s : State) :
    (clearStatus w s).prepared = s.prepared ∧ (clearStatus w s).irqEn = s.irqEn ∧ (clearStatus w s).arg = s.arg ∧
    (clearStatus w s).result = s.result ∧ (clearStatus w s).cfg = s.cfg ∧ (clearStatus w s).prep = s.prep ∧
    (clearStatus w s).par = s.par ∧ (clearStatus w s).ws = s.ws ∧ (clearStatus w s).peq = s.peq ∧
    (clearStatus w s).spa = s.spa ∧ (clearStatus w s).fir = s.fir ∧ (clearStatus w s).lm = s.lm ∧
    (clearStatus w s).run = s.run ∧ (clearStatus w s).nonf = s.nonf ∧ (clearStatus w s).mem = s.mem ∧
    (clearStatus w s).rdata = s.rdata ∧ (clearStatus w s).draws = s.draws ∧ (clearStatus w s).inbox = s.inbox := by
  unfold clearStatus; split <;> simp

@[simp] theorem resetUnits_frame (s : State) :
    (resetUnits s).done = s.done ∧ (resetUnits s).err = s.err ∧ (resetUnits s).nonfinite = s.nonfinite ∧
    (resetUnits s).pnan = s.pnan ∧ (resetUnits s).specNew = s.specNew ∧ (resetUnits s).prepared = s.prepared ∧
    (resetUnits s).errCode = s.errCode ∧ (resetUnits s).errOvf = s.errOvf ∧ (resetUnits s).errInfo = s.errInfo ∧
    (resetUnits s).irqEn = s.irqEn ∧ (resetUnits s).arg = s.arg ∧ (resetUnits s).result = s.result ∧
    (resetUnits s).cfg = s.cfg ∧ (resetUnits s).prep = s.prep ∧ (resetUnits s).par = s.par ∧
    (resetUnits s).run = s.run ∧ (resetUnits s).nonf = s.nonf ∧ (resetUnits s).mem = s.mem ∧
    (resetUnits s).rdata = s.rdata ∧ (resetUnits s).draws = s.draws ∧ (resetUnits s).inbox = s.inbox := by
  simp [resetUnits]

@[simp] theorem deriveUnits_frame (par : Params) (s : State) :
    (deriveUnits par s).done = s.done ∧ (deriveUnits par s).err = s.err ∧ (deriveUnits par s).nonfinite = s.nonfinite ∧
    (deriveUnits par s).pnan = s.pnan ∧ (deriveUnits par s).specNew = s.specNew ∧ (deriveUnits par s).prepared = s.prepared ∧
    (deriveUnits par s).errCode = s.errCode ∧ (deriveUnits par s).errOvf = s.errOvf ∧ (deriveUnits par s).errInfo = s.errInfo ∧
    (deriveUnits par s).irqEn = s.irqEn ∧ (deriveUnits par s).arg = s.arg ∧ (deriveUnits par s).result = s.result ∧
    (deriveUnits par s).cfg = s.cfg ∧ (deriveUnits par s).prep = s.prep ∧ (deriveUnits par s).par = s.par ∧
    (deriveUnits par s).run = s.run ∧ (deriveUnits par s).nonf = s.nonf ∧ (deriveUnits par s).mem = s.mem ∧
    (deriveUnits par s).rdata = s.rdata ∧ (deriveUnits par s).draws = s.draws ∧ (deriveUnits par s).inbox = s.inbox := by
  simp [deriveUnits]

@[simp] theorem noteAll_frame (ns : Nat) (s : State) :
    (noteAll ns s).done = s.done ∧ (noteAll ns s).err = s.err ∧ (noteAll ns s).nonfinite = s.nonfinite ∧
    (noteAll ns s).pnan = s.pnan ∧ (noteAll ns s).specNew = s.specNew ∧ (noteAll ns s).prepared = s.prepared ∧
    (noteAll ns s).errCode = s.errCode ∧ (noteAll ns s).errOvf = s.errOvf ∧ (noteAll ns s).errInfo = s.errInfo ∧
    (noteAll ns s).irqEn = s.irqEn ∧ (noteAll ns s).arg = s.arg ∧ (noteAll ns s).result = s.result ∧
    (noteAll ns s).cfg = s.cfg ∧ (noteAll ns s).prep = s.prep ∧ (noteAll ns s).par = s.par ∧
    (noteAll ns s).ws = s.ws ∧ (noteAll ns s).peq = s.peq ∧ (noteAll ns s).spa = s.spa ∧
    (noteAll ns s).fir = s.fir ∧ (noteAll ns s).lm = s.lm ∧ (noteAll ns s).run = s.run ∧
    (noteAll ns s).mem = s.mem ∧ (noteAll ns s).rdata = s.rdata ∧ (noteAll ns s).draws = s.draws ∧
    (noteAll ns s).inbox = s.inbox := by
  unfold noteAll
  refine ⟨?_, ?_, ?_, ?_, ?_, ?_, ?_, ?_, ?_, ?_, ?_, ?_, ?_, ?_, ?_, ?_, ?_, ?_, ?_, ?_, ?_, ?_, ?_, ?_, ?_⟩
  · exact each_field (g := State.done) (by intro i t; simp) s
  · exact each_field (g := State.err) (by intro i t; simp) s
  · exact each_field (g := State.nonfinite) (by intro i t; simp) s
  · exact each_field (g := State.pnan) (by intro i t; simp) s
  · exact each_field (g := State.specNew) (by intro i t; simp) s
  · exact each_field (g := State.prepared) (by intro i t; simp) s
  · exact each_field (g := State.errCode) (by intro i t; simp) s
  · exact each_field (g := State.errOvf) (by intro i t; simp) s
  · exact each_field (g := State.errInfo) (by intro i t; simp) s
  · exact each_field (g := State.irqEn) (by intro i t; simp) s
  · exact each_field (g := State.arg) (by intro i t; simp) s
  · exact each_field (g := State.result) (by intro i t; simp) s
  · exact each_field (g := State.cfg) (by intro i t; simp) s
  · exact each_field (g := State.prep) (by intro i t; simp) s
  · exact each_field (g := State.par) (by intro i t; simp) s
  · exact each_field (g := State.ws) (by intro i t; simp) s
  · exact each_field (g := State.peq) (by intro i t; simp) s
  · exact each_field (g := State.spa) (by intro i t; simp) s
  · exact each_field (g := State.fir) (by intro i t; simp) s
  · exact each_field (g := State.lm) (by intro i t; simp) s
  · exact each_field (g := State.run) (by intro i t; simp) s
  · exact each_field (g := State.mem) (by intro i t; simp) s
  · exact each_field (g := State.rdata) (by intro i t; simp) s
  · exact each_field (g := State.draws) (by intro i t; simp) s
  · exact each_field (g := State.inbox) (by intro i t; simp) s

@[simp] theorem freeSamples_frame (d ns : Nat) (s : State) :
    (freeSamples d ns s).done = s.done ∧ (freeSamples d ns s).err = s.err ∧ (freeSamples d ns s).nonfinite = s.nonfinite ∧
    (freeSamples d ns s).pnan = s.pnan ∧ (freeSamples d ns s).specNew = s.specNew ∧ (freeSamples d ns s).prepared = s.prepared ∧
    (freeSamples d ns s).errCode = s.errCode ∧ (freeSamples d ns s).errOvf = s.errOvf ∧ (freeSamples d ns s).errInfo = s.errInfo ∧
    (freeSamples d ns s).irqEn = s.irqEn ∧ (freeSamples d ns s).arg = s.arg ∧ (freeSamples d ns s).result = s.result ∧
    (freeSamples d ns s).cfg = s.cfg ∧ (freeSamples d ns s).prep = s.prep ∧ (freeSamples d ns s).par = s.par ∧
    (freeSamples d ns s).ws = s.ws ∧ (freeSamples d ns s).peq = s.peq ∧ (freeSamples d ns s).spa = s.spa ∧
    (freeSamples d ns s).fir = s.fir ∧ (freeSamples d ns s).lm = s.lm ∧ (freeSamples d ns s).run = s.run ∧
    (freeSamples d ns s).nonf = s.nonf ∧ (freeSamples d ns s).rdata = s.rdata ∧ (freeSamples d ns s).draws = s.draws ∧
    (freeSamples d ns s).inbox = s.inbox := by
  unfold freeSamples
  refine ⟨?_, ?_, ?_, ?_, ?_, ?_, ?_, ?_, ?_, ?_, ?_, ?_, ?_, ?_, ?_, ?_, ?_, ?_, ?_, ?_, ?_, ?_, ?_, ?_, ?_⟩
  · exact each_field (g := State.done) (by intro i t; simp) s
  · exact each_field (g := State.err) (by intro i t; simp) s
  · exact each_field (g := State.nonfinite) (by intro i t; simp) s
  · exact each_field (g := State.pnan) (by intro i t; simp) s
  · exact each_field (g := State.specNew) (by intro i t; simp) s
  · exact each_field (g := State.prepared) (by intro i t; simp) s
  · exact each_field (g := State.errCode) (by intro i t; simp) s
  · exact each_field (g := State.errOvf) (by intro i t; simp) s
  · exact each_field (g := State.errInfo) (by intro i t; simp) s
  · exact each_field (g := State.irqEn) (by intro i t; simp) s
  · exact each_field (g := State.arg) (by intro i t; simp) s
  · exact each_field (g := State.result) (by intro i t; simp) s
  · exact each_field (g := State.cfg) (by intro i t; simp) s
  · exact each_field (g := State.prep) (by intro i t; simp) s
  · exact each_field (g := State.par) (by intro i t; simp) s
  · exact each_field (g := State.ws) (by intro i t; simp) s
  · exact each_field (g := State.peq) (by intro i t; simp) s
  · exact each_field (g := State.spa) (by intro i t; simp) s
  · exact each_field (g := State.fir) (by intro i t; simp) s
  · exact each_field (g := State.lm) (by intro i t; simp) s
  · exact each_field (g := State.run) (by intro i t; simp) s
  · exact each_field (g := State.nonf) (by intro i t; simp) s
  · exact each_field (g := State.rdata) (by intro i t; simp) s
  · exact each_field (g := State.draws) (by intro i t; simp) s
  · exact each_field (g := State.inbox) (by intro i t; simp) s

@[simp] theorem wsChannel_frame (p : WsSetup) (ns c : Nat) (s : State) :
    (wsChannel p ns c s).done = s.done ∧ (wsChannel p ns c s).err = s.err ∧ (wsChannel p ns c s).nonfinite = s.nonfinite ∧
    (wsChannel p ns c s).pnan = s.pnan ∧ (wsChannel p ns c s).specNew = s.specNew ∧ (wsChannel p ns c s).prepared = s.prepared ∧
    (wsChannel p ns c s).errCode = s.errCode ∧ (wsChannel p ns c s).errOvf = s.errOvf ∧ (wsChannel p ns c s).errInfo = s.errInfo ∧
    (wsChannel p ns c s).irqEn = s.irqEn ∧ (wsChannel p ns c s).arg = s.arg ∧ (wsChannel p ns c s).result = s.result ∧
    (wsChannel p ns c s).cfg = s.cfg ∧ (wsChannel p ns c s).prep = s.prep ∧ (wsChannel p ns c s).par = s.par ∧
    (wsChannel p ns c s).peq = s.peq ∧ (wsChannel p ns c s).spa = s.spa ∧ (wsChannel p ns c s).fir = s.fir ∧
    (wsChannel p ns c s).lm = s.lm ∧ (wsChannel p ns c s).run = s.run ∧ (wsChannel p ns c s).rdata = s.rdata ∧
    (wsChannel p ns c s).draws = s.draws ∧ (wsChannel p ns c s).inbox = s.inbox := by
  simp [wsChannel]

@[simp] theorem wsProcess_frame (par : Params) (ns : Nat) (s : State) :
    (wsProcess par ns s).done = s.done ∧ (wsProcess par ns s).err = s.err ∧ (wsProcess par ns s).nonfinite = s.nonfinite ∧
    (wsProcess par ns s).pnan = s.pnan ∧ (wsProcess par ns s).specNew = s.specNew ∧ (wsProcess par ns s).prepared = s.prepared ∧
    (wsProcess par ns s).errCode = s.errCode ∧ (wsProcess par ns s).errOvf = s.errOvf ∧ (wsProcess par ns s).errInfo = s.errInfo ∧
    (wsProcess par ns s).irqEn = s.irqEn ∧ (wsProcess par ns s).arg = s.arg ∧ (wsProcess par ns s).result = s.result ∧
    (wsProcess par ns s).cfg = s.cfg ∧ (wsProcess par ns s).prep = s.prep ∧ (wsProcess par ns s).par = s.par ∧
    (wsProcess par ns s).peq = s.peq ∧ (wsProcess par ns s).spa = s.spa ∧ (wsProcess par ns s).fir = s.fir ∧
    (wsProcess par ns s).lm = s.lm ∧ (wsProcess par ns s).run = s.run ∧ (wsProcess par ns s).rdata = s.rdata ∧
    (wsProcess par ns s).draws = s.draws ∧ (wsProcess par ns s).inbox = s.inbox := by
  unfold wsProcess
  refine ⟨?_, ?_, ?_, ?_, ?_, ?_, ?_, ?_, ?_, ?_, ?_, ?_, ?_, ?_, ?_, ?_, ?_, ?_, ?_, ?_, ?_, ?_, ?_⟩
  · exact each_field (g := State.done) (by intro i t; simp) s
  · exact each_field (g := State.err) (by intro i t; simp) s
  · exact each_field (g := State.nonfinite) (by intro i t; simp) s
  · exact each_field (g := State.pnan) (by intro i t; simp) s
  · exact each_field (g := State.specNew) (by intro i t; simp) s
  · exact each_field (g := State.prepared) (by intro i t; simp) s
  · exact each_field (g := State.errCode) (by intro i t; simp) s
  · exact each_field (g := State.errOvf) (by intro i t; simp) s
  · exact each_field (g := State.errInfo) (by intro i t; simp) s
  · exact each_field (g := State.irqEn) (by intro i t; simp) s
  · exact each_field (g := State.arg) (by intro i t; simp) s
  · exact each_field (g := State.result) (by intro i t; simp) s
  · exact each_field (g := State.cfg) (by intro i t; simp) s
  · exact each_field (g := State.prep) (by intro i t; simp) s
  · exact each_field (g := State.par) (by intro i t; simp) s
  · exact each_field (g := State.peq) (by intro i t; simp) s
  · exact each_field (g := State.spa) (by intro i t; simp) s
  · exact each_field (g := State.fir) (by intro i t; simp) s
  · exact each_field (g := State.lm) (by intro i t; simp) s
  · exact each_field (g := State.run) (by intro i t; simp) s
  · exact each_field (g := State.rdata) (by intro i t; simp) s
  · exact each_field (g := State.draws) (by intro i t; simp) s
  · exact each_field (g := State.inbox) (by intro i t; simp) s

@[simp] theorem freeWs_frame (par : Params) (d : Nat) (s : State) :
    (freeWs par d s).done = s.done ∧ (freeWs par d s).err = s.err ∧ (freeWs par d s).nonfinite = s.nonfinite ∧
    (freeWs par d s).pnan = s.pnan ∧ (freeWs par d s).specNew = s.specNew ∧ (freeWs par d s).prepared = s.prepared ∧
    (freeWs par d s).errCode = s.errCode ∧ (freeWs par d s).errOvf = s.errOvf ∧ (freeWs par d s).errInfo = s.errInfo ∧
    (freeWs par d s).irqEn = s.irqEn ∧ (freeWs par d s).arg = s.arg ∧ (freeWs par d s).result = s.result ∧
    (freeWs par d s).cfg = s.cfg ∧ (freeWs par d s).prep = s.prep ∧ (freeWs par d s).par = s.par ∧
    (freeWs par d s).peq = s.peq ∧ (freeWs par d s).spa = s.spa ∧ (freeWs par d s).fir = s.fir ∧
    (freeWs par d s).lm = s.lm ∧ (freeWs par d s).run = s.run ∧ (freeWs par d s).nonf = s.nonf ∧
    (freeWs par d s).mem = s.mem ∧ (freeWs par d s).rdata = s.rdata ∧ (freeWs par d s).draws = s.draws ∧
    (freeWs par d s).inbox = s.inbox := by
  unfold freeWs
  refine ⟨?_, ?_, ?_, ?_, ?_, ?_, ?_, ?_, ?_, ?_, ?_, ?_, ?_, ?_, ?_, ?_, ?_, ?_, ?_, ?_, ?_, ?_, ?_, ?_, ?_⟩
  · exact each_field (g := State.done) (by intro i t; simp) s
  · exact each_field (g := State.err) (by intro i t; simp) s
  · exact each_field (g := State.nonfinite) (by intro i t; simp) s
  · exact each_field (g := State.pnan) (by intro i t; simp) s
  · exact each_field (g := State.specNew) (by intro i t; simp) s
  · exact each_field (g := State.prepared) (by intro i t; simp) s
  · exact each_field (g := State.errCode) (by intro i t; simp) s
  · exact each_field (g := State.errOvf) (by intro i t; simp) s
  · exact each_field (g := State.errInfo) (by intro i t; simp) s
  · exact each_field (g := State.irqEn) (by intro i t; simp) s
  · exact each_field (g := State.arg) (by intro i t; simp) s
  · exact each_field (g := State.result) (by intro i t; simp) s
  · exact each_field (g := State.cfg) (by intro i t; simp) s
  · exact each_field (g := State.prep) (by intro i t; simp) s
  · exact each_field (g := State.par) (by intro i t; simp) s
  · exact each_field (g := State.peq) (by intro i t; simp) s
  · exact each_field (g := State.spa) (by intro i t; simp) s
  · exact each_field (g := State.fir) (by intro i t; simp) s
  · exact each_field (g := State.lm) (by intro i t; simp) s
  · exact each_field (g := State.run) (by intro i t; simp) s
  · exact each_field (g := State.nonf) (by intro i t; simp) s
  · exact each_field (g := State.mem) (by intro i t; simp) s
  · exact each_field (g := State.rdata) (by intro i t; simp) s
  · exact each_field (g := State.draws) (by intro i t; simp) s
  · exact each_field (g := State.inbox) (by intro i t; simp) s

@[simp] theorem spaFeed_frame (ns : Nat) (s : State) :
    (spaFeed ns s).done = s.done ∧ (spaFeed ns s).err = s.err ∧ (spaFeed ns s).nonfinite = s.nonfinite ∧
    (spaFeed ns s).pnan = s.pnan ∧ (spaFeed ns s).prepared = s.prepared ∧ (spaFeed ns s).errCode = s.errCode ∧
    (spaFeed ns s).errOvf = s.errOvf ∧ (spaFeed ns s).errInfo = s.errInfo ∧ (spaFeed ns s).irqEn = s.irqEn ∧
    (spaFeed ns s).arg = s.arg ∧ (spaFeed ns s).result = s.result ∧ (spaFeed ns s).cfg = s.cfg ∧
    (spaFeed ns s).prep = s.prep ∧ (spaFeed ns s).par = s.par ∧ (spaFeed ns s).ws = s.ws ∧
    (spaFeed ns s).peq = s.peq ∧ (spaFeed ns s).fir = s.fir ∧ (spaFeed ns s).lm = s.lm ∧
    (spaFeed ns s).run = s.run ∧ (spaFeed ns s).mem = s.mem ∧ (spaFeed ns s).rdata = s.rdata ∧
    (spaFeed ns s).draws = s.draws ∧ (spaFeed ns s).inbox = s.inbox := by
  simp [spaFeed]

@[simp] theorem peqChannel_frame (ns c : Nat) (s : State) :
    (peqChannel ns c s).done = s.done ∧ (peqChannel ns c s).err = s.err ∧ (peqChannel ns c s).nonfinite = s.nonfinite ∧
    (peqChannel ns c s).pnan = s.pnan ∧ (peqChannel ns c s).specNew = s.specNew ∧ (peqChannel ns c s).prepared = s.prepared ∧
    (peqChannel ns c s).errCode = s.errCode ∧ (peqChannel ns c s).errOvf = s.errOvf ∧ (peqChannel ns c s).errInfo = s.errInfo ∧
    (peqChannel ns c s).irqEn = s.irqEn ∧ (peqChannel ns c s).arg = s.arg ∧ (peqChannel ns c s).result = s.result ∧
    (peqChannel ns c s).cfg = s.cfg ∧ (peqChannel ns c s).prep = s.prep ∧ (peqChannel ns c s).par = s.par ∧
    (peqChannel ns c s).ws = s.ws ∧ (peqChannel ns c s).spa = s.spa ∧ (peqChannel ns c s).fir = s.fir ∧
    (peqChannel ns c s).lm = s.lm ∧ (peqChannel ns c s).run = s.run ∧ (peqChannel ns c s).rdata = s.rdata ∧
    (peqChannel ns c s).draws = s.draws ∧ (peqChannel ns c s).inbox = s.inbox := by
  simp [peqChannel]

@[simp] theorem peqRun_frame (par : Params) (ns : Nat) (s : State) :
    (peqRun par ns s).done = s.done ∧ (peqRun par ns s).err = s.err ∧ (peqRun par ns s).nonfinite = s.nonfinite ∧
    (peqRun par ns s).pnan = s.pnan ∧ (peqRun par ns s).prepared = s.prepared ∧ (peqRun par ns s).errCode = s.errCode ∧
    (peqRun par ns s).errOvf = s.errOvf ∧ (peqRun par ns s).errInfo = s.errInfo ∧ (peqRun par ns s).irqEn = s.irqEn ∧
    (peqRun par ns s).arg = s.arg ∧ (peqRun par ns s).result = s.result ∧ (peqRun par ns s).cfg = s.cfg ∧
    (peqRun par ns s).prep = s.prep ∧ (peqRun par ns s).par = s.par ∧ (peqRun par ns s).ws = s.ws ∧
    (peqRun par ns s).fir = s.fir ∧ (peqRun par ns s).lm = s.lm ∧ (peqRun par ns s).run = s.run ∧
    (peqRun par ns s).rdata = s.rdata ∧ (peqRun par ns s).draws = s.draws ∧ (peqRun par ns s).inbox = s.inbox := by
  unfold peqRun
  refine ⟨?_, ?_, ?_, ?_, ?_, ?_, ?_, ?_, ?_, ?_, ?_, ?_, ?_, ?_, ?_, ?_, ?_, ?_, ?_, ?_, ?_⟩
  · exact (each_field (g := State.done) (by intro i t; simp) _).trans (by simp)
  · exact (each_field (g := State.err) (by intro i t; simp) _).trans (by simp)
  · exact (each_field (g := State.nonfinite) (by intro i t; simp) _).trans (by simp)
  · exact (each_field (g := State.pnan) (by intro i t; simp) _).trans (by simp)
  · exact (each_field (g := State.prepared) (by intro i t; simp) _).trans (by simp)
  · exact (each_field (g := State.errCode) (by intro i t; simp) _).trans (by simp)
  · exact (each_field (g := State.errOvf) (by intro i t; simp) _).trans (by simp)
  · exact (each_field (g := State.errInfo) (by intro i t; simp) _).trans (by simp)
  · exact (each_field (g := State.irqEn) (by intro i t; simp) _).trans (by simp)
  · exact (each_field (g := State.arg) (by intro i t; simp) _).trans (by simp)
  · exact (each_field (g := State.result) (by intro i t; simp) _).trans (by simp)
  · exact (each_field (g := State.cfg) (by intro i t; simp) _).trans (by simp)
  · exact (each_field (g := State.prep) (by intro i t; simp) _).trans (by simp)
  · exact (each_field (g := State.par) (by intro i t; simp) _).trans (by simp)
  · exact (each_field (g := State.ws) (by intro i t; simp) _).trans (by simp)
  · exact (each_field (g := State.fir) (by intro i t; simp) _).trans (by simp)
  · exact (each_field (g := State.lm) (by intro i t; simp) _).trans (by simp)
  · exact (each_field (g := State.run) (by intro i t; simp) _).trans (by simp)
  · exact (each_field (g := State.rdata) (by intro i t; simp) _).trans (by simp)
  · exact (each_field (g := State.draws) (by intro i t; simp) _).trans (by simp)
  · exact (each_field (g := State.inbox) (by intro i t; simp) _).trans (by simp)

@[simp] theorem peqProcess_frame (par : Params) (ns : Nat) (s : State) :
    (peqProcess par ns s).done = s.done ∧ (peqProcess par ns s).err = s.err ∧ (peqProcess par ns s).nonfinite = s.nonfinite ∧
    (peqProcess par ns s).pnan = s.pnan ∧ (peqProcess par ns s).prepared = s.prepared ∧ (peqProcess par ns s).errCode = s.errCode ∧
    (peqProcess par ns s).errOvf = s.errOvf ∧ (peqProcess par ns s).errInfo = s.errInfo ∧ (peqProcess par ns s).irqEn = s.irqEn ∧
    (peqProcess par ns s).arg = s.arg ∧ (peqProcess par ns s).result = s.result ∧ (peqProcess par ns s).cfg = s.cfg ∧
    (peqProcess par ns s).prep = s.prep ∧ (peqProcess par ns s).par = s.par ∧ (peqProcess par ns s).ws = s.ws ∧
    (peqProcess par ns s).fir = s.fir ∧ (peqProcess par ns s).lm = s.lm ∧ (peqProcess par ns s).run = s.run ∧
    (peqProcess par ns s).rdata = s.rdata ∧ (peqProcess par ns s).draws = s.draws ∧ (peqProcess par ns s).inbox = s.inbox := by
  unfold peqProcess; split <;> simp

@[simp] theorem firChannel_frame (lcBy hcBy : Bool) (ns inst c : Nat) (s : State) :
    (firChannel lcBy hcBy ns inst c s).done = s.done ∧ (firChannel lcBy hcBy ns inst c s).err = s.err ∧ (firChannel lcBy hcBy ns inst c s).nonfinite = s.nonfinite ∧
    (firChannel lcBy hcBy ns inst c s).pnan = s.pnan ∧ (firChannel lcBy hcBy ns inst c s).specNew = s.specNew ∧ (firChannel lcBy hcBy ns inst c s).prepared = s.prepared ∧
    (firChannel lcBy hcBy ns inst c s).errCode = s.errCode ∧ (firChannel lcBy hcBy ns inst c s).errOvf = s.errOvf ∧ (firChannel lcBy hcBy ns inst c s).errInfo = s.errInfo ∧
    (firChannel lcBy hcBy ns inst c s).irqEn = s.irqEn ∧ (firChannel lcBy hcBy ns inst c s).arg = s.arg ∧ (firChannel lcBy hcBy ns inst c s).result = s.result ∧
    (firChannel lcBy hcBy ns inst c s).cfg = s.cfg ∧ (firChannel lcBy hcBy ns inst c s).prep = s.prep ∧ (firChannel lcBy hcBy ns inst c s).par = s.par ∧
    (firChannel lcBy hcBy ns inst c s).ws = s.ws ∧ (firChannel lcBy hcBy ns inst c s).peq = s.peq ∧ (firChannel lcBy hcBy ns inst c s).spa = s.spa ∧
    (firChannel lcBy hcBy ns inst c s).lm = s.lm ∧ (firChannel lcBy hcBy ns inst c s).run = s.run ∧ (firChannel lcBy hcBy ns inst c s).rdata = s.rdata ∧
    (firChannel lcBy hcBy ns inst c s).draws = s.draws ∧ (firChannel lcBy hcBy ns inst c s).inbox = s.inbox := by
  simp [firChannel]

@[simp] theorem firProcess_frame (par : Params) (ns inst : Nat) (s : State) :
    (firProcess par ns inst s).done = s.done ∧ (firProcess par ns inst s).err = s.err ∧ (firProcess par ns inst s).nonfinite = s.nonfinite ∧
    (firProcess par ns inst s).pnan = s.pnan ∧ (firProcess par ns inst s).specNew = s.specNew ∧ (firProcess par ns inst s).prepared = s.prepared ∧
    (firProcess par ns inst s).errCode = s.errCode ∧ (firProcess par ns inst s).errOvf = s.errOvf ∧ (firProcess par ns inst s).errInfo = s.errInfo ∧
    (firProcess par ns inst s).irqEn = s.irqEn ∧ (firProcess par ns inst s).arg = s.arg ∧ (firProcess par ns inst s).result = s.result ∧
    (firProcess par ns inst s).cfg = s.cfg ∧ (firProcess par ns inst s).prep = s.prep ∧ (firProcess par ns inst s).par = s.par ∧
    (firProcess par ns inst s).ws = s.ws ∧ (firProcess par ns inst s).peq = s.peq ∧ (firProcess par ns inst s).spa = s.spa ∧
    (firProcess par ns inst s).lm = s.lm ∧ (firProcess par ns inst s).run = s.run ∧ (firProcess par ns inst s).rdata = s.rdata ∧
    (firProcess par ns inst s).draws = s.draws ∧ (firProcess par ns inst s).inbox = s.inbox := by
  unfold firProcess
  split
  · simp
  · dsimp only
    split
    · simp
    · refine ⟨?_, ?_, ?_, ?_, ?_, ?_, ?_, ?_, ?_, ?_, ?_, ?_, ?_, ?_, ?_, ?_, ?_, ?_, ?_, ?_, ?_, ?_, ?_⟩
      · exact each_field (g := State.done) (by intro i t; simp) _
      · exact each_field (g := State.err) (by intro i t; simp) _
      · exact each_field (g := State.nonfinite) (by intro i t; simp) _
      · exact each_field (g := State.pnan) (by intro i t; simp) _
      · exact each_field (g := State.specNew) (by intro i t; simp) _
      · exact each_field (g := State.prepared) (by intro i t; simp) _
      · exact each_field (g := State.errCode) (by intro i t; simp) _
      · exact each_field (g := State.errOvf) (by intro i t; simp) _
      · exact each_field (g := State.errInfo) (by intro i t; simp) _
      · exact each_field (g := State.irqEn) (by intro i t; simp) _
      · exact each_field (g := State.arg) (by intro i t; simp) _
      · exact each_field (g := State.result) (by intro i t; simp) _
      · exact each_field (g := State.cfg) (by intro i t; simp) _
      · exact each_field (g := State.prep) (by intro i t; simp) _
      · exact each_field (g := State.par) (by intro i t; simp) _
      · exact each_field (g := State.ws) (by intro i t; simp) _
      · exact each_field (g := State.peq) (by intro i t; simp) _
      · exact each_field (g := State.spa) (by intro i t; simp) _
      · exact each_field (g := State.lm) (by intro i t; simp) _
      · exact each_field (g := State.run) (by intro i t; simp) _
      · exact each_field (g := State.rdata) (by intro i t; simp) _
      · exact each_field (g := State.draws) (by intro i t; simp) _
      · exact each_field (g := State.inbox) (by intro i t; simp) _

@[simp] theorem lmAnalyzeIn_frame (ns : Nat) (s : State) :
    (lmAnalyzeIn ns s).done = s.done ∧ (lmAnalyzeIn ns s).err = s.err ∧ (lmAnalyzeIn ns s).nonfinite = s.nonfinite ∧
    (lmAnalyzeIn ns s).pnan = s.pnan ∧ (lmAnalyzeIn ns s).specNew = s.specNew ∧ (lmAnalyzeIn ns s).prepared = s.prepared ∧
    (lmAnalyzeIn ns s).errCode = s.errCode ∧ (lmAnalyzeIn ns s).errOvf = s.errOvf ∧ (lmAnalyzeIn ns s).errInfo = s.errInfo ∧
    (lmAnalyzeIn ns s).irqEn = s.irqEn ∧ (lmAnalyzeIn ns s).arg = s.arg ∧ (lmAnalyzeIn ns s).result = s.result ∧
    (lmAnalyzeIn ns s).cfg = s.cfg ∧ (lmAnalyzeIn ns s).prep = s.prep ∧ (lmAnalyzeIn ns s).par = s.par ∧
    (lmAnalyzeIn ns s).ws = s.ws ∧ (lmAnalyzeIn ns s).peq = s.peq ∧ (lmAnalyzeIn ns s).spa = s.spa ∧
    (lmAnalyzeIn ns s).fir = s.fir ∧ (lmAnalyzeIn ns s).run = s.run ∧ (lmAnalyzeIn ns s).mem = s.mem ∧
    (lmAnalyzeIn ns s).rdata = s.rdata ∧ (lmAnalyzeIn ns s).draws = s.draws ∧ (lmAnalyzeIn ns s).inbox = s.inbox := by
  simp [lmAnalyzeIn]

@[simp] theorem lmAnalyzeOut_frame (ns : Nat) (s : State) :
    (lmAnalyzeOut ns s).done = s.done ∧ (lmAnalyzeOut ns s).err = s.err ∧ (lmAnalyzeOut ns s).nonfinite = s.nonfinite ∧
    (lmAnalyzeOut ns s).pnan = s.pnan ∧ (lmAnalyzeOut ns s).specNew = s.specNew ∧ (lmAnalyzeOut ns s).prepared = s.prepared ∧
    (lmAnalyzeOut ns s).errCode = s.errCode ∧ (lmAnalyzeOut ns s).errOvf = s.errOvf ∧ (lmAnalyzeOut ns s).errInfo = s.errInfo ∧
    (lmAnalyzeOut ns s).irqEn = s.irqEn ∧ (lmAnalyzeOut ns s).arg = s.arg ∧ (lmAnalyzeOut ns s).result = s.result ∧
    (lmAnalyzeOut ns s).cfg = s.cfg ∧ (lmAnalyzeOut ns s).prep = s.prep ∧ (lmAnalyzeOut ns s).par = s.par ∧
    (lmAnalyzeOut ns s).ws = s.ws ∧ (lmAnalyzeOut ns s).peq = s.peq ∧ (lmAnalyzeOut ns s).spa = s.spa ∧
    (lmAnalyzeOut ns s).fir = s.fir ∧ (lmAnalyzeOut ns s).run = s.run ∧ (lmAnalyzeOut ns s).mem = s.mem ∧
    (lmAnalyzeOut ns s).rdata = s.rdata ∧ (lmAnalyzeOut ns s).draws = s.draws ∧ (lmAnalyzeOut ns s).inbox = s.inbox := by
  simp [lmAnalyzeOut]

@[simp] theorem lmApply_frame (ns : Nat) (s : State) :
    (lmApply ns s).done = s.done ∧ (lmApply ns s).err = s.err ∧ (lmApply ns s).nonfinite = s.nonfinite ∧
    (lmApply ns s).pnan = s.pnan ∧ (lmApply ns s).specNew = s.specNew ∧ (lmApply ns s).prepared = s.prepared ∧
    (lmApply ns s).errCode = s.errCode ∧ (lmApply ns s).errOvf = s.errOvf ∧ (lmApply ns s).errInfo = s.errInfo ∧
    (lmApply ns s).irqEn = s.irqEn ∧ (lmApply ns s).arg = s.arg ∧ (lmApply ns s).result = s.result ∧
    (lmApply ns s).cfg = s.cfg ∧ (lmApply ns s).prep = s.prep ∧ (lmApply ns s).par = s.par ∧
    (lmApply ns s).ws = s.ws ∧ (lmApply ns s).peq = s.peq ∧ (lmApply ns s).spa = s.spa ∧
    (lmApply ns s).fir = s.fir ∧ (lmApply ns s).run = s.run ∧ (lmApply ns s).rdata = s.rdata ∧
    (lmApply ns s).draws = s.draws ∧ (lmApply ns s).inbox = s.inbox := by
  unfold lmApply
  refine ⟨?_, ?_, ?_, ?_, ?_, ?_, ?_, ?_, ?_, ?_, ?_, ?_, ?_, ?_, ?_, ?_, ?_, ?_, ?_, ?_, ?_, ?_, ?_⟩
  · exact each_field (g := State.done) (by intro i t; simp) _
  · exact each_field (g := State.err) (by intro i t; simp) _
  · exact each_field (g := State.nonfinite) (by intro i t; simp) _
  · exact each_field (g := State.pnan) (by intro i t; simp) _
  · exact each_field (g := State.specNew) (by intro i t; simp) _
  · exact each_field (g := State.prepared) (by intro i t; simp) _
  · exact each_field (g := State.errCode) (by intro i t; simp) _
  · exact each_field (g := State.errOvf) (by intro i t; simp) _
  · exact each_field (g := State.errInfo) (by intro i t; simp) _
  · exact each_field (g := State.irqEn) (by intro i t; simp) _
  · exact each_field (g := State.arg) (by intro i t; simp) _
  · exact each_field (g := State.result) (by intro i t; simp) _
  · exact each_field (g := State.cfg) (by intro i t; simp) _
  · exact each_field (g := State.prep) (by intro i t; simp) _
  · exact each_field (g := State.par) (by intro i t; simp) _
  · exact each_field (g := State.ws) (by intro i t; simp) _
  · exact each_field (g := State.peq) (by intro i t; simp) _
  · exact each_field (g := State.spa) (by intro i t; simp) _
  · exact each_field (g := State.fir) (by intro i t; simp) _
  · exact each_field (g := State.run) (by intro i t; simp) _
  · exact each_field (g := State.rdata) (by intro i t; simp) _
  · exact each_field (g := State.draws) (by intro i t; simp) _
  · exact each_field (g := State.inbox) (by intro i t; simp) _

@[simp] theorem gainChannel_frame (gl : F32) (ns c : Nat) (s : State) :
    (gainChannel gl ns c s).done = s.done ∧ (gainChannel gl ns c s).err = s.err ∧ (gainChannel gl ns c s).nonfinite = s.nonfinite ∧
    (gainChannel gl ns c s).pnan = s.pnan ∧ (gainChannel gl ns c s).specNew = s.specNew ∧ (gainChannel gl ns c s).prepared = s.prepared ∧
    (gainChannel gl ns c s).errCode = s.errCode ∧ (gainChannel gl ns c s).errOvf = s.errOvf ∧ (gainChannel gl ns c s).errInfo = s.errInfo ∧
    (gainChannel gl ns c s).irqEn = s.irqEn ∧ (gainChannel gl ns c s).arg = s.arg ∧ (gainChannel gl ns c s).result = s.result ∧
    (gainChannel gl ns c s).cfg = s.cfg ∧ (gainChannel gl ns c s).prep = s.prep ∧ (gainChannel gl ns c s).par = s.par ∧
    (gainChannel gl ns c s).ws = s.ws ∧ (gainChannel gl ns c s).peq = s.peq ∧ (gainChannel gl ns c s).spa = s.spa ∧
    (gainChannel gl ns c s).fir = s.fir ∧ (gainChannel gl ns c s).lm = s.lm ∧ (gainChannel gl ns c s).run = s.run ∧
    (gainChannel gl ns c s).rdata = s.rdata ∧ (gainChannel gl ns c s).draws = s.draws ∧ (gainChannel gl ns c s).inbox = s.inbox := by
  simp [gainChannel]

@[simp] theorem gain_frame (gdb : F32) (ns : Nat) (s : State) :
    (gain gdb ns s).done = s.done ∧ (gain gdb ns s).err = s.err ∧ (gain gdb ns s).nonfinite = s.nonfinite ∧
    (gain gdb ns s).pnan = s.pnan ∧ (gain gdb ns s).specNew = s.specNew ∧ (gain gdb ns s).prepared = s.prepared ∧
    (gain gdb ns s).errCode = s.errCode ∧ (gain gdb ns s).errOvf = s.errOvf ∧ (gain gdb ns s).errInfo = s.errInfo ∧
    (gain gdb ns s).irqEn = s.irqEn ∧ (gain gdb ns s).arg = s.arg ∧ (gain gdb ns s).result = s.result ∧
    (gain gdb ns s).cfg = s.cfg ∧ (gain gdb ns s).prep = s.prep ∧ (gain gdb ns s).par = s.par ∧
    (gain gdb ns s).ws = s.ws ∧ (gain gdb ns s).peq = s.peq ∧ (gain gdb ns s).spa = s.spa ∧
    (gain gdb ns s).fir = s.fir ∧ (gain gdb ns s).lm = s.lm ∧ (gain gdb ns s).run = s.run ∧
    (gain gdb ns s).rdata = s.rdata ∧ (gain gdb ns s).draws = s.draws ∧ (gain gdb ns s).inbox = s.inbox := by
  unfold gain
  refine ⟨?_, ?_, ?_, ?_, ?_, ?_, ?_, ?_, ?_, ?_, ?_, ?_, ?_, ?_, ?_, ?_, ?_, ?_, ?_, ?_, ?_, ?_, ?_, ?_⟩
  · exact each_field (g := State.done) (by intro i t; simp) s
  · exact each_field (g := State.err) (by intro i t; simp) s
  · exact each_field (g := State.nonfinite) (by intro i t; simp) s
  · exact each_field (g := State.pnan) (by intro i t; simp) s
  · exact each_field (g := State.specNew) (by intro i t; simp) s
  · exact each_field (g := State.prepared) (by intro i t; simp) s
  · exact each_field (g := State.errCode) (by intro i t; simp) s
  · exact each_field (g := State.errOvf) (by intro i t; simp) s
  · exact each_field (g := State.errInfo) (by intro i t; simp) s
  · exact each_field (g := State.irqEn) (by intro i t; simp) s
  · exact each_field (g := State.arg) (by intro i t; simp) s
  · exact each_field (g := State.result) (by intro i t; simp) s
  · exact each_field (g := State.cfg) (by intro i t; simp) s
  · exact each_field (g := State.prep) (by intro i t; simp) s
  · exact each_field (g := State.par) (by intro i t; simp) s
  · exact each_field (g := State.ws) (by intro i t; simp) s
  · exact each_field (g := State.peq) (by intro i t; simp) s
  · exact each_field (g := State.spa) (by intro i t; simp) s
  · exact each_field (g := State.fir) (by intro i t; simp) s
  · exact each_field (g := State.lm) (by intro i t; simp) s
  · exact each_field (g := State.run) (by intro i t; simp) s
  · exact each_field (g := State.rdata) (by intro i t; simp) s
  · exact each_field (g := State.draws) (by intro i t; simp) s
  · exact each_field (g := State.inbox) (by intro i t; simp) s

@[simp] theorem chainSteps_frame (par : Params) (ns : Nat) (s : State) :
    (chainSteps par ns s).done = s.done ∧ (chainSteps par ns s).err = s.err ∧ (chainSteps par ns s).nonfinite = s.nonfinite ∧
    (chainSteps par ns s).pnan = s.pnan ∧ (chainSteps par ns s).prepared = s.prepared ∧ (chainSteps par ns s).errCode = s.errCode ∧
    (chainSteps par ns s).errOvf = s.errOvf ∧ (chainSteps par ns s).errInfo = s.errInfo ∧ (chainSteps par ns s).irqEn = s.irqEn ∧
    (chainSteps par ns s).arg = s.arg ∧ (chainSteps par ns s).result = s.result ∧ (chainSteps par ns s).cfg = s.cfg ∧
    (chainSteps par ns s).prep = s.prep ∧ (chainSteps par ns s).par = s.par ∧ (chainSteps par ns s).run = s.run ∧
    (chainSteps par ns s).rdata = s.rdata ∧ (chainSteps par ns s).draws = s.draws ∧ (chainSteps par ns s).inbox = s.inbox := by
  simp [chainSteps]

@[simp] theorem freeSpa_frame (ns d : Nat) (s t : State) :
    (freeSpa ns d s t).done = t.done ∧ (freeSpa ns d s t).err = t.err ∧ (freeSpa ns d s t).nonfinite = t.nonfinite ∧
    (freeSpa ns d s t).pnan = t.pnan ∧ (freeSpa ns d s t).specNew = t.specNew ∧ (freeSpa ns d s t).prepared = t.prepared ∧
    (freeSpa ns d s t).errCode = t.errCode ∧ (freeSpa ns d s t).errOvf = t.errOvf ∧ (freeSpa ns d s t).errInfo = t.errInfo ∧
    (freeSpa ns d s t).irqEn = t.irqEn ∧ (freeSpa ns d s t).arg = t.arg ∧ (freeSpa ns d s t).result = t.result ∧
    (freeSpa ns d s t).cfg = t.cfg ∧ (freeSpa ns d s t).prep = t.prep ∧ (freeSpa ns d s t).par = t.par ∧
    (freeSpa ns d s t).ws = t.ws ∧ (freeSpa ns d s t).peq = t.peq ∧ (freeSpa ns d s t).fir = t.fir ∧
    (freeSpa ns d s t).lm = t.lm ∧ (freeSpa ns d s t).run = t.run ∧ (freeSpa ns d s t).nonf = t.nonf ∧
    (freeSpa ns d s t).mem = t.mem ∧ (freeSpa ns d s t).rdata = t.rdata ∧ (freeSpa ns d s t).draws = t.draws ∧
    (freeSpa ns d s t).inbox = t.inbox := by
  simp [freeSpa]

@[simp] theorem freePeq_frame (par : Params) (ns d : Nat) (s t : State) :
    (freePeq par ns d s t).done = t.done ∧ (freePeq par ns d s t).err = t.err ∧ (freePeq par ns d s t).nonfinite = t.nonfinite ∧
    (freePeq par ns d s t).pnan = t.pnan ∧ (freePeq par ns d s t).specNew = t.specNew ∧ (freePeq par ns d s t).prepared = t.prepared ∧
    (freePeq par ns d s t).errCode = t.errCode ∧ (freePeq par ns d s t).errOvf = t.errOvf ∧ (freePeq par ns d s t).errInfo = t.errInfo ∧
    (freePeq par ns d s t).irqEn = t.irqEn ∧ (freePeq par ns d s t).arg = t.arg ∧ (freePeq par ns d s t).result = t.result ∧
    (freePeq par ns d s t).cfg = t.cfg ∧ (freePeq par ns d s t).prep = t.prep ∧ (freePeq par ns d s t).par = t.par ∧
    (freePeq par ns d s t).ws = t.ws ∧ (freePeq par ns d s t).fir = t.fir ∧ (freePeq par ns d s t).lm = t.lm ∧
    (freePeq par ns d s t).run = t.run ∧ (freePeq par ns d s t).nonf = t.nonf ∧ (freePeq par ns d s t).mem = t.mem ∧
    (freePeq par ns d s t).rdata = t.rdata ∧ (freePeq par ns d s t).draws = t.draws ∧ (freePeq par ns d s t).inbox = t.inbox := by
  unfold freePeq; split <;> simp

@[simp] theorem freeFir_frame (par : Params) (inst d : Nat) (s t : State) :
    (freeFir par inst d s t).done = t.done ∧ (freeFir par inst d s t).err = t.err ∧ (freeFir par inst d s t).nonfinite = t.nonfinite ∧
    (freeFir par inst d s t).pnan = t.pnan ∧ (freeFir par inst d s t).specNew = t.specNew ∧ (freeFir par inst d s t).prepared = t.prepared ∧
    (freeFir par inst d s t).errCode = t.errCode ∧ (freeFir par inst d s t).errOvf = t.errOvf ∧ (freeFir par inst d s t).errInfo = t.errInfo ∧
    (freeFir par inst d s t).irqEn = t.irqEn ∧ (freeFir par inst d s t).arg = t.arg ∧ (freeFir par inst d s t).result = t.result ∧
    (freeFir par inst d s t).cfg = t.cfg ∧ (freeFir par inst d s t).prep = t.prep ∧ (freeFir par inst d s t).par = t.par ∧
    (freeFir par inst d s t).ws = t.ws ∧ (freeFir par inst d s t).peq = t.peq ∧ (freeFir par inst d s t).spa = t.spa ∧
    (freeFir par inst d s t).lm = t.lm ∧ (freeFir par inst d s t).run = t.run ∧ (freeFir par inst d s t).nonf = t.nonf ∧
    (freeFir par inst d s t).mem = t.mem ∧ (freeFir par inst d s t).rdata = t.rdata ∧ (freeFir par inst d s t).draws = t.draws ∧
    (freeFir par inst d s t).inbox = t.inbox := by
  unfold freeFir; split <;> simp

@[simp] theorem freeLmIn_frame (d : Nat) (s t : State) :
    (freeLmIn d s t).done = t.done ∧ (freeLmIn d s t).err = t.err ∧ (freeLmIn d s t).nonfinite = t.nonfinite ∧
    (freeLmIn d s t).pnan = t.pnan ∧ (freeLmIn d s t).specNew = t.specNew ∧ (freeLmIn d s t).prepared = t.prepared ∧
    (freeLmIn d s t).errCode = t.errCode ∧ (freeLmIn d s t).errOvf = t.errOvf ∧ (freeLmIn d s t).errInfo = t.errInfo ∧
    (freeLmIn d s t).irqEn = t.irqEn ∧ (freeLmIn d s t).arg = t.arg ∧ (freeLmIn d s t).result = t.result ∧
    (freeLmIn d s t).cfg = t.cfg ∧ (freeLmIn d s t).prep = t.prep ∧ (freeLmIn d s t).par = t.par ∧
    (freeLmIn d s t).ws = t.ws ∧ (freeLmIn d s t).peq = t.peq ∧ (freeLmIn d s t).spa = t.spa ∧
    (freeLmIn d s t).fir = t.fir ∧ (freeLmIn d s t).run = t.run ∧ (freeLmIn d s t).nonf = t.nonf ∧
    (freeLmIn d s t).mem = t.mem ∧ (freeLmIn d s t).rdata = t.rdata ∧ (freeLmIn d s t).draws = t.draws ∧
    (freeLmIn d s t).inbox = t.inbox := by
  simp [freeLmIn]

@[simp] theorem freeLmOut_frame (d : Nat) (s t : State) :
    (freeLmOut d s t).done = t.done ∧ (freeLmOut d s t).err = t.err ∧ (freeLmOut d s t).nonfinite = t.nonfinite ∧
    (freeLmOut d s t).pnan = t.pnan ∧ (freeLmOut d s t).specNew = t.specNew ∧ (freeLmOut d s t).prepared = t.prepared ∧
    (freeLmOut d s t).errCode = t.errCode ∧ (freeLmOut d s t).errOvf = t.errOvf ∧ (freeLmOut d s t).errInfo = t.errInfo ∧
    (freeLmOut d s t).irqEn = t.irqEn ∧ (freeLmOut d s t).arg = t.arg ∧ (freeLmOut d s t).result = t.result ∧
    (freeLmOut d s t).cfg = t.cfg ∧ (freeLmOut d s t).prep = t.prep ∧ (freeLmOut d s t).par = t.par ∧
    (freeLmOut d s t).ws = t.ws ∧ (freeLmOut d s t).peq = t.peq ∧ (freeLmOut d s t).spa = t.spa ∧
    (freeLmOut d s t).fir = t.fir ∧ (freeLmOut d s t).run = t.run ∧ (freeLmOut d s t).nonf = t.nonf ∧
    (freeLmOut d s t).mem = t.mem ∧ (freeLmOut d s t).rdata = t.rdata ∧ (freeLmOut d s t).draws = t.draws ∧
    (freeLmOut d s t).inbox = t.inbox := by
  simp [freeLmOut]

@[simp] theorem freeLmApply_frame (d : Nat) (t : State) :
    (freeLmApply d t).done = t.done ∧ (freeLmApply d t).err = t.err ∧ (freeLmApply d t).nonfinite = t.nonfinite ∧
    (freeLmApply d t).pnan = t.pnan ∧ (freeLmApply d t).specNew = t.specNew ∧ (freeLmApply d t).prepared = t.prepared ∧
    (freeLmApply d t).errCode = t.errCode ∧ (freeLmApply d t).errOvf = t.errOvf ∧ (freeLmApply d t).errInfo = t.errInfo ∧
    (freeLmApply d t).irqEn = t.irqEn ∧ (freeLmApply d t).arg = t.arg ∧ (freeLmApply d t).result = t.result ∧
    (freeLmApply d t).cfg = t.cfg ∧ (freeLmApply d t).prep = t.prep ∧ (freeLmApply d t).par = t.par ∧
    (freeLmApply d t).ws = t.ws ∧ (freeLmApply d t).peq = t.peq ∧ (freeLmApply d t).spa = t.spa ∧
    (freeLmApply d t).fir = t.fir ∧ (freeLmApply d t).run = t.run ∧ (freeLmApply d t).nonf = t.nonf ∧
    (freeLmApply d t).mem = t.mem ∧ (freeLmApply d t).rdata = t.rdata ∧ (freeLmApply d t).draws = t.draws ∧
    (freeLmApply d t).inbox = t.inbox := by
  simp [freeLmApply]

@[simp] theorem freeChain_frame (par : Params) (ns d : Nat) (s t : State) :
    (freeChain par ns d s t).done = t.done ∧ (freeChain par ns d s t).err = t.err ∧ (freeChain par ns d s t).nonfinite = t.nonfinite ∧
    (freeChain par ns d s t).pnan = t.pnan ∧ (freeChain par ns d s t).specNew = t.specNew ∧ (freeChain par ns d s t).prepared = t.prepared ∧
    (freeChain par ns d s t).errCode = t.errCode ∧ (freeChain par ns d s t).errOvf = t.errOvf ∧ (freeChain par ns d s t).errInfo = t.errInfo ∧
    (freeChain par ns d s t).irqEn = t.irqEn ∧ (freeChain par ns d s t).arg = t.arg ∧ (freeChain par ns d s t).result = t.result ∧
    (freeChain par ns d s t).cfg = t.cfg ∧ (freeChain par ns d s t).prep = t.prep ∧ (freeChain par ns d s t).par = t.par ∧
    (freeChain par ns d s t).run = t.run ∧ (freeChain par ns d s t).nonf = t.nonf ∧ (freeChain par ns d s t).rdata = t.rdata ∧
    (freeChain par ns d s t).draws = t.draws ∧ (freeChain par ns d s t).inbox = t.inbox := by
  simp [freeChain]

end Sys2Proof.Machine
end

