-- ==== Sys2Proof/Laws/Memory.lean ====
section
/-!
SUPPORT. Sample RAM: every store keeps the canonical form and the mapped range, reads back what it wrote, and
leaves every other byte alone.
-/

namespace Sys2Proof.Machine

theorem Memory.lookup_insert_same (a : Nat) (x : Byte) (l : List Host.Cell) :
    Memory.lookup a (Memory.insert a x l) = some x := by
  induction l with
  | nil => simp [Memory.insert, Memory.lookup]
  | cons c l ih =>
    obtain ⟨b, y⟩ := c
    simp only [Memory.insert]
    split
    · simp [Memory.lookup]
    · split
      · simp [Memory.lookup]
      · rename_i h1 h2
        simp [Memory.lookup, h1, h2, ih]

theorem Memory.lookup_insert_other (a b : Nat) (x : Byte) (l : List Host.Cell) (hab : b ≠ a) :
    Memory.lookup b (Memory.insert a x l) = Memory.lookup b l := by
  induction l with
  | nil => simp only [Memory.insert, Memory.lookup]; split <;> simp_all
  | cons c l ih =>
    obtain ⟨d, y⟩ := c
    simp only [Memory.insert]
    split
    · rename_i h1
      simp only [Memory.lookup, hab, if_false]
      split
      · have : b ≠ d := by omega
        have : b < d := by omega
        simp_all
      · rfl
    · split
      · rename_i h1 h2
        subst h2
        simp only [Memory.lookup, hab, if_false]
      · simp only [Memory.lookup, ih]

theorem Memory.insert_mem {a : Nat} {x : Byte} {l : List Host.Cell} {c : Host.Cell}
    (h : c ∈ Memory.insert a x l) : c = (a, x) ∨ c ∈ l := by
  induction l with
  | nil => simpa [Memory.insert] using h
  | cons d l ih =>
    obtain ⟨b, y⟩ := d
    simp only [Memory.insert] at h
    split at h
    · simpa using h
    · split at h
      · rcases List.mem_cons.1 h with h | h
        · exact .inl h
        · exact .inr (List.mem_cons_of_mem _ h)
      · rcases List.mem_cons.1 h with h | h
        · exact .inr (h ▸ List.mem_cons_self)
        · exact (ih h).imp id (List.mem_cons_of_mem _)

theorem Memory.insert_wf (a : Nat) (x : Byte) (l : List Host.Cell)
    (h : l.Pairwise (fun p q => p.1 < q.1)) : (Memory.insert a x l).Pairwise (fun p q => p.1 < q.1) := by
  induction l with
  | nil => simp [Memory.insert]
  | cons c l ih =>
    obtain ⟨b, y⟩ := c
    have hl := (List.pairwise_cons.1 h)
    simp only [Memory.insert]
    split
    · rename_i h1
      refine List.pairwise_cons.2 ⟨fun q hq => ?_, h⟩
      rcases List.mem_cons.1 hq with rfl | hq
      · exact h1
      · exact lt_trans h1 (hl.1 q hq)
    · split
      · rename_i h2
        subst h2
        exact List.pairwise_cons.2 ⟨fun q hq => hl.1 q hq, hl.2⟩
      · refine List.pairwise_cons.2 ⟨fun q hq => ?_, ih hl.2⟩
        rcases Memory.insert_mem hq with rfl | hq
        · dsimp only; omega
        · exact hl.1 q hq

/-! ## One byte -/

@[simp] theorem Memory.write_epoch (m : Memory) (a : Nat) (x : Byte) : (m.write a x).epoch = m.epoch := rfl

/-- A store of one byte: that byte reads as stored, every other as before. -/
theorem Memory.read_write (m : Memory) (a b : Nat) (x : Byte) :
    (m.write a x).read b = if b = a then x else m.read b := by
  split
  · subst b; simp [Memory.read, Memory.write, Memory.lookup_insert_same]
  · rename_i h; simp [Memory.read, Memory.write, Memory.lookup_insert_other a b x m.cells h]

theorem Memory.write_wf {m : Memory} (h : m.wf) (a : Nat) (x : Byte) : (m.write a x).wf :=
  Memory.insert_wf a x m.cells h

theorem Memory.write_mapped {m : Memory} (h : m.mapped) {a : Nat} (x : Byte)
    (ha : 0x10000 ≤ a ∧ a < ramEnd) : (m.write a x).mapped := by
  intro c hc
  rcases Memory.insert_mem hc with rfl | hc
  · exact ha
  · exact h c hc

/-! ## One word -/

@[simp] theorem Memory.writeWord_epoch (m : Memory) (a : Nat) (w : Word) : (m.writeWord a w).epoch = m.epoch := rfl

/-- A store of one word: its four bytes, and no other (R44). -/
theorem Memory.read_writeWord (m : Memory) (a b : Nat) (w : Word) :
    (m.writeWord a w).read b = if a ≤ b ∧ b < a + 4 then byteOf w (b - a) else m.read b := by
  simp only [Memory.writeWord, Memory.read_write]
  by_cases h3 : b = a + 3
  · subst h3; simp
  · by_cases h2 : b = a + 2
    · subst h2; simp
    · by_cases h1 : b = a + 1
      · subst h1; simp
      · by_cases h0 : b = a
        · subst h0; simp
        · have : ¬(a ≤ b ∧ b < a + 4) := by omega
          simp [h0, h1, h2, h3, this]

theorem byteOf_append (w : Word) : byteOf w 3 ++ byteOf w 2 ++ byteOf w 1 ++ byteOf w 0 = w := by
  apply BitVec.eq_of_getLsbD_eq
  intro i hi
  simp only [BitVec.getLsbD_append, byteOf, BitVec.getLsbD_extractLsb']
  by_cases h0 : i < 8
  · simp [h0]
  · by_cases h1 : i < 16
    · have e : i - 8 < 8 := by omega
      have e' : 8 + (i - 8) = i := by omega
      simp [h0, e, e']
    · by_cases h2 : i < 24
      · have e0 : ¬ i - 8 < 8 := by omega
        have e : i - 8 - 8 < 8 := by omega
        have e' : 16 + (i - 8 - 8) = i := by omega
        simp [h0, e0, e, e']
      · have e0 : ¬ i - 8 < 8 := by omega
        have e1 : ¬ i - 8 - 8 < 8 := by omega
        have e : i - 8 - 8 - 8 < 8 := by omega
        have e' : 24 + (i - 8 - 8 - 8) = i := by omega
        simp [h0, e0, e1, e, e']

/-- A word reads back as stored. -/
theorem Memory.readWord_writeWord_same (m : Memory) (a : Nat) (w : Word) : (m.writeWord a w).readWord a = w := by
  have h : (m.writeWord a w).readWord a = byteOf w 3 ++ byteOf w 2 ++ byteOf w 1 ++ byteOf w 0 := by
    simp [Memory.readWord, Memory.read_writeWord]
  rw [h, byteOf_append]

/-- A word whose bytes lie apart from the stored one reads as before. -/
theorem Memory.readWord_writeWord_other (m : Memory) (a b : Nat) (w : Word) (h : b + 4 ≤ a ∨ a + 4 ≤ b) :
    (m.writeWord a w).readWord b = m.readWord b := by
  simp only [Memory.readWord, Memory.read_writeWord]
  rw [if_neg (by omega), if_neg (by omega), if_neg (by omega), if_neg (by omega)]

/-- Two memories that agree on a word's bytes agree on the word. -/
theorem Memory.readWord_congr {m n : Memory} {a : Nat} (h : ∀ b, a ≤ b → b < a + 4 → m.read b = n.read b) :
    m.readWord a = n.readWord a := by
  simp [Memory.readWord, h a (by omega) (by omega), h (a + 1) (by omega) (by omega),
    h (a + 2) (by omega) (by omega), h (a + 3) (by omega) (by omega)]

theorem Memory.writeWord_wf {m : Memory} (h : m.wf) (a : Nat) (w : Word) : (m.writeWord a w).wf :=
  Memory.write_wf (Memory.write_wf (Memory.write_wf (Memory.write_wf h _ _) _ _) _ _) _ _

theorem Memory.writeWord_mapped {m : Memory} (h : m.mapped) {a : Nat} (w : Word)
    (lo : 0x10000 ≤ a) (hi : a + 4 ≤ ramEnd) : (m.writeWord a w).mapped :=
  Memory.write_mapped (Memory.write_mapped (Memory.write_mapped (Memory.write_mapped h _ ⟨by omega, by omega⟩) _
    ⟨by omega, by omega⟩) _ ⟨by omega, by omega⟩) _ ⟨by omega, by omega⟩

/-! ## A run of words -/

@[simp] theorem Memory.writeWords_epoch (m : Memory) (a : Nat) (ws : List Word) :
    (m.writeWords a ws).epoch = m.epoch := by
  induction ws generalizing m a with
  | nil => rfl
  | cons w ws ih => simp [Memory.writeWords, ih]

/-- A byte outside the stored words reads as before. -/
theorem Memory.read_writeWords_other (m : Memory) (a b : Nat) (ws : List Word)
    (h : b < a ∨ a + 4 * ws.length ≤ b) : (m.writeWords a ws).read b = m.read b := by
  induction ws generalizing m a with
  | nil => rfl
  | cons w ws ih =>
    simp only [List.length_cons] at h
    rw [Memory.writeWords, ih _ _ (by omega), Memory.read_writeWord, if_neg (by omega)]

/-- Word `i` of the stored words reads back. -/
theorem Memory.readWord_writeWords_same (m : Memory) (a i : Nat) (ws : List Word) (h : i < ws.length) :
    (m.writeWords a ws).readWord (a + 4 * i) = ws[i] := by
  induction ws generalizing m a i with
  | nil => simp at h
  | cons w ws ih =>
    cases i with
    | zero =>
      have e : (m.writeWords a (w :: ws)).readWord a = (m.writeWord a w).readWord a := by
        apply Memory.readWord_congr
        intro b h1 h2
        exact Memory.read_writeWords_other (m.writeWord a w) (a + 4) b ws (by omega)
      simpa [Memory.readWord_writeWord_same] using e
    | succ i =>
      have e : a + 4 * (i + 1) = (a + 4) + 4 * i := by omega
      rw [Memory.writeWords, e, ih _ _ _ (by simpa using h)]
      rfl

/-- A word outside the stored words reads as before. -/
theorem Memory.readWord_writeWords_other (m : Memory) (a b : Nat) (ws : List Word)
    (h : b + 4 ≤ a ∨ a + 4 * ws.length ≤ b) : (m.writeWords a ws).readWord b = m.readWord b := by
  apply Memory.readWord_congr
  intro d h1 h2
  exact Memory.read_writeWords_other _ _ _ _ (by omega)

theorem Memory.writeWords_wf {m : Memory} (h : m.wf) (a : Nat) (ws : List Word) : (m.writeWords a ws).wf := by
  induction ws generalizing m a with
  | nil => exact h
  | cons w ws ih => exact ih (Memory.writeWord_wf h _ _) _

theorem Memory.writeWords_mapped {m : Memory} (h : m.mapped) {a : Nat} (ws : List Word)
    (lo : 0x10000 ≤ a) (hi : a + 4 * ws.length ≤ ramEnd) : (m.writeWords a ws).mapped := by
  induction ws generalizing m a with
  | nil => exact h
  | cons w ws ih =>
    simp only [List.length_cons] at hi
    exact ih (Memory.writeWord_mapped h _ lo (by omega)) (by omega) (by omega)

/-- After a reset nothing is listed: the canonical form holds. -/
theorem Memory.empty_wf (epoch : Nat) : (Memory.mk epoch []).wf := List.Pairwise.nil

theorem Memory.empty_mapped (epoch : Nat) : (Memory.mk epoch []).mapped := fun _ h => nomatch h

end Sys2Proof.Machine
end

