-- ==== Sys2Proof/Laws/Command.lean ====
section
/-!
SUPPORT. The shape every command has (R74): exec of a command is `issue` of its word, its checks and its rule; what
`issue` can do, said once; and that every rule answers a next state where the prepared values are legal.
-/

namespace Sys2Proof.Machine

open Sys2Proof.Safety

/-- A command's meaning is the issue of its own word, with its own checks and its own rule. -/
theorem exec_command {i : Instr} {w : Word} (h : commandWord i = some w) (s : State) :
    exec i s = issue w (commandCheck i s) (commandBody i) s := by
  cases i <;> simp only [commandWord, encode, readAt, writeAt, Option.some.injEq, reduceCtorEq] at h <;>
    (subst h; rfl)

theorem issue_busy {w : Word} {e : Option ErrKind} {b : Body} {s : State} {r : Running} (h : s.run = some r) :
    issue w e b s = .next (raise .busyCmd w s) := by
  simp [issue, busy, h]

theorem issue_refused {w : Word} {k : ErrKind} {b : Body} {s : State} (h : s.run = none) :
    issue w (some k) b s = .next (raise k w s) := by
  simp [issue, busy, h]

/-- An accepted command: its rule on the state after acceptance, then completion. -/
theorem issue_accepted {w : Word} {b : Body} {s t : State} (h : s.run = none)
    (hb : b (running w s) (accept w s) = .next t) : issue w none b s = .next (complete t) := by
  simp [issue, busy, h, hb, andThen]

theorem onSamples_next {ns : Nat} {s t : State} (hc : s.prep.channels.toNat ≤ Config.cMax) (hn : ns ≤ Config.nMax) :
    onSamples ns s t = .next t := by
  simp [onSamples, hc, hn]

/-- What `onSamples` can answer. -/
theorem onSamples_cases {ns : Nat} {s t u : State} (h : onSamples ns s t = .next u) :
    u = t ∧ s.prep.channels.toNat ≤ Config.cMax ∧ ns ≤ Config.nMax := by
  unfold onSamples at h
  split at h
  · rename_i hc; exact ⟨(Host.Outcome.next.inj h).symm, hc⟩
  · cases h

theorem settle_finite {f : Nat → State → State → State} {s t : State} (h : t.nonf = false) : settle f s t = t := by
  simp [settle, h]

theorem settle_nonfinite {f : Nat → State → State → State} {s t : State} (h : t.nonf = true) :
    settle f s t = { f s.draws s t with draws := s.draws + 1 } := by
  simp [settle, h]

/-- What `cfgOk` says of the channel count and the block length. -/
theorem cfgOk_bounds {c : Cfg} (h : cfgOk c = true) :
    1 ≤ c.maxblock.toNat ∧ c.maxblock.toNat ≤ Config.nMax ∧ 1 ≤ c.channels.toNat ∧ c.channels.toNat ≤ Config.cMax := by
  simp only [cfgOk, Bool.and_eq_true, decide_eq_true_eq] at h
  omega

theorem checkBlock_none {ns : Nat} {s : State} :
    checkBlock ns s = none ↔ s.prepared = true ∧ 1 ≤ ns ∧ ns ≤ s.prep.maxblock.toNat := by
  unfold checkBlock
  split
  · split <;> simp_all
  · simp_all

theorem ready_check {ns : Nat} {s : State} (h : Ready ns s) : checkBlock ns s = none :=
  checkBlock_none.2 ⟨h.prepared, h.atLeastOne, h.atMostMax⟩

/-- A ready block command's samples are mapped (R49). -/
theorem ready_mapped {ns : Nat} {s : State} (h : Ready ns s) :
    s.prep.channels.toNat ≤ Config.cMax ∧ ns ≤ Config.nMax := by
  have := cfgOk_bounds h.config
  have := h.atMostMax
  omega

/-- The rule of a block command, whatever it does, answers a next state where the samples are mapped. -/
theorem commandBody_next {i : Instr} {r : Running} {s : State}
    (h : ∀ ns, blockLength i = some ns → s.prep.channels.toNat ≤ Config.cMax ∧ ns ≤ Config.nMax) :
    ∃ t, commandBody i r s = .next t := by
  cases i <;> first
    | exact ⟨_, rfl⟩
    | exact ⟨_, onSamples_next (h _ rfl).1 (h _ rfl).2⟩

/-- What the issue of a command can answer with a next state: refused as busy, refused by a check, or carried out. -/
theorem issue_cases {w : Word} {e : Option ErrKind} {b : Body} {s t : State} (h : issue w e b s = .next t) :
    (s.run.isSome = true ∧ t = raise .busyCmd w s) ∨
    (s.run = none ∧ ∃ k, e = some k ∧ t = raise k w s) ∨
    (s.run = none ∧ e = none ∧ ∃ u, b (running w s) (accept w s) = .next u ∧ t = complete u) := by
  unfold issue at h
  split at h
  · rename_i hb
    cases h; exact .inl ⟨hb, rfl⟩
  · rename_i hb
    have hn : s.run = none := by simpa [busy] using hb
    split at h
    · cases h; exact .inr (.inl ⟨hn, _, rfl, rfl⟩)
    · cases hu : b (running w s) (accept w s) <;> simp only [hu, andThen] at h <;> cases h
      exact .inr (.inr ⟨hn, rfl, _, rfl, rfl⟩)

/-- The fields no command's rule touches. -/
theorem commandBody_frame {i : Instr} {r : Running} {s t : State} (h : commandBody i r s = .next t) :
    t.done = s.done ∧ t.err = s.err ∧ t.nonfinite = s.nonfinite ∧ t.pnan = s.pnan ∧ t.errCode = s.errCode ∧
    t.errOvf = s.errOvf ∧ t.errInfo = s.errInfo ∧ t.irqEn = s.irqEn ∧ t.arg = s.arg ∧ t.cfg = s.cfg ∧
    t.par = s.par ∧ t.run = s.run ∧ t.rdata = s.rdata ∧ t.inbox = s.inbox := by
  cases i <;> simp only [commandBody, bodyNop, bodyPrepare, bodyResetAll, bodySpaReset, bodyFirReset, bodyPeqReset,
    bodyWsReset, bodyWsCurve, bodyLmReset, bodySpaProduce, bodyFirProcess, bodyPeqProcess, bodyWsProcess,
    bodyLmAnalyzeIn, bodyLmAnalyzeOut, bodyLmApply, bodyChainProcess] at h <;>
  first
  | (cases h; simp; done)
  | (cases h; unfold settle; split <;> simp; done)
  | (obtain ⟨rfl, -, -⟩ := onSamples_cases h
     unfold settle
     split <;> simp)

/-- PREPARE alone changes the prepared configuration. -/
theorem commandBody_prep {i : Instr} {r : Running} {s t : State} (h : commandBody i r s = .next t)
    (hi : i ≠ .prepare) : t.prep = s.prep ∧ t.prepared = s.prepared := by
  cases i <;> simp only [commandBody, bodyNop, bodyPrepare, bodyResetAll, bodySpaReset, bodyFirReset, bodyPeqReset,
    bodyWsReset, bodyWsCurve, bodyLmReset, bodySpaProduce, bodyFirProcess, bodyPeqProcess, bodyWsProcess,
    bodyLmAnalyzeIn, bodyLmAnalyzeOut, bodyLmApply, bodyChainProcess] at h <;>
  first
  | exact absurd rfl hi
  | (cases h; simp; done)
  | (cases h; unfold settle; split <;> simp; done)
  | (obtain ⟨rfl, -, -⟩ := onSamples_cases h
     unfold settle
     split <;> simp)

end Sys2Proof.Machine
end

