-- ==== Sys2Proof/Laws/Loops.lean ====
section
/-!
SUPPORT. Tables, the sample loop of a channel, and the loop over channels: what each leaves where.
-/

namespace Sys2Proof.Machine

open Sys2Proof.Safety

/-! ## Tables -/

theorem vget_lt {α : Type} {n : Nat} (v : Vector α n) {i : Nat} (d : α) (h : i < n) : vget v i d = v[i] := by
  simp [vget, h]

theorem vget_ge {α : Type} {n : Nat} (v : Vector α n) {i : Nat} (d : α) (h : n ≤ i) : vget v i d = d := by
  simp [vget, h]

theorem vget_vset_same {α : Type} {n : Nat} (v : Vector α n) {i : Nat} (x d : α) (h : i < n) :
    vget (vset v i x) i d = x := by
  simp [vget, vset, h]

theorem vget_vset_other {α : Type} {n : Nat} (v : Vector α n) {i j : Nat} (x d : α) (h : j ≠ i) :
    vget (vset v i x) j d = vget v j d := by
  unfold vget vset
  rw [Vector.getElem?_setIfInBounds_ne (by omega)]

theorem vget_tab {α : Type} {n : Nat} (f : Nat → α) {i : Nat} (d : α) (h : i < n) : vget (tab n f) i d = f i := by
  unfold vget tab
  simp [h]

theorem vget_vmap {α β : Type} {n : Nat} (f : α → β) (v : Vector α n) {i : Nat} (d : β) (h : i < n) :
    vget (vmap f v) i d = f v[i] := by
  unfold vget vmap
  simp [h]

theorem vget_replicate {α : Type} {n i : Nat} (x : α) : vget (Vector.replicate n x) i x = x := by
  unfold vget
  by_cases h : i < n <;> simp [h]

/-- Two tables with the same entries are the same. -/
theorem vget_ext {α : Type} {n : Nat} {v w : Vector α n} (d : α) (h : ∀ i, i < n → vget v i d = vget w i d) :
    v = w := by
  ext i hi
  have := h i hi
  rwa [vget_lt v d hi, vget_lt w d hi] at this

/-- The sum of a table, first entry first (R9). -/
theorem sum_tab (n : Nat) (p : Nat → F32) :
    Fp.sum (tab (n + 1) p).toList = (List.range n).foldl (fun acc j => Fp.add acc (p (j + 1))) (p 0) := by
  have : (tab (n + 1) p).toList = p 0 :: (List.range n).map (fun j => p (j + 1)) := by
    show (List.range (n + 1)).map p = _
    rw [List.range_succ_eq_map]
    simp [Function.comp_def]
  rw [this]
  simp only [Fp.sum, List.foldl_map]

/-! ## Loops -/

@[simp] theorem each_zero {σ : Type} (f : Nat → σ → σ) (s : σ) : each 0 f s = s := rfl

theorem each_succ {σ : Type} (n : Nat) (f : Nat → σ → σ) (s : σ) : each (n + 1) f s = f n (each n f s) := by
  simp [each, List.range_succ]

@[simp] theorem mapAccum_length {σ α β : Type} (f : σ → α → σ × β) (s : σ) (l : List α) :
    (mapAccum f s l).2.length = l.length := by
  induction l generalizing s with
  | nil => rfl
  | cons x l ih => simp [mapAccum, ih]

/-- A list processed in order is a run of its step. -/
theorem mapAccum_runs {σ : Type} (f : σ → F32 → σ × F32) (s : σ) (l : List F32) :
    Runs f l.length (fun i => l.getD i 0) (fun i => (mapAccum f s l).2.getD i 0) s (mapAccum f s l).1 := by
  induction l generalizing s with
  | nil => exact ⟨fun _ => s, rfl, rfl, fun i hi => absurd hi (Nat.not_lt_zero i)⟩
  | cons x l ih =>
    obtain ⟨st, h0, hn, hs⟩ := ih (f s x).1
    refine ⟨fun i => if i = 0 then s else st (i - 1), rfl, ?_, ?_⟩
    · simpa [mapAccum] using hn
    · intro i hi
      cases i with
      | zero => simp [mapAccum, h0]
      | succ i =>
        have := hs i (by simpa using hi)
        simpa [mapAccum] using this

/-- A run depends on its samples below the length only. -/
theorem Runs_congr {σ : Type} {f : σ → F32 → σ × F32} {n : Nat} {xs xs' ys ys' : Nat → F32} {a b : σ}
    (h : Runs f n xs ys a b) (hx : ∀ i, i < n → xs' i = xs i) (hy : ∀ i, i < n → ys' i = ys i) :
    Runs f n xs' ys' a b := by
  obtain ⟨st, h0, hn, hs⟩ := h
  exact ⟨st, h0, hn, fun i hi => by rw [hx i hi, hy i hi]; exact hs i hi⟩

/-! ## The samples of a block -/

@[simp] theorem readBlock_length (s : State) (c ns : Nat) : (readBlock s c ns).length = ns := by simp [readBlock]

theorem readBlock_getD (s : State) (c : Nat) {ns i : Nat} (h : i < ns) :
    (readBlock s c ns).getD i 0 = sampleAt s c i := by
  simp [readBlock, List.getD, h]

/-- Samples depend on sample RAM only. -/
theorem sampleAt_congr {s t : State} (h : t.mem = s.mem) (c i : Nat) : sampleAt t c i = sampleAt s c i := by
  simp [sampleAt, h]

/-- The channel average for the one or two channels a configuration can have (R133). -/
theorem mono_eq {s : State} (h : cfgOk s.prep = true) (i : Nat) :
    mono s i = if s.prep.channels = 2#32
      then Fp.div (Fp.add (sampleAt s 0 i) (sampleAt s 1 i)) 0x40000000#32
      else Fp.div (sampleAt s 0 i) 0x3F800000#32 := by
  have e : s.prep.channels = 1#32 ∨ s.prep.channels = 2#32 := by
    simp only [cfgOk, Bool.and_eq_true, decide_eq_true_eq] at h
    have m : Config.cMax = 2 := rfl
    have e : s.prep.channels.toNat = 1 ∨ s.prep.channels.toNat = 2 := by omega
    exact e.imp (fun e => BitVec.eq_of_toNat_eq e) (fun e => BitVec.eq_of_toNat_eq e)
  have a1 : Fp.ofInt ((1 : Nat) : Int) = 0x3F800000#32 := by decide +kernel
  have a2 : Fp.ofInt ((2 : Nat) : Int) = 0x40000000#32 := by decide +kernel
  unfold mono chans
  rcases e with e | e
  · rw [e, if_neg (by decide), show (1#32).toNat = 1 from rfl, a1, show List.range (1 - 1) = [] from rfl,
      List.foldl_nil]
  · rw [e, if_pos rfl, show (2#32).toNat = 2 from rfl, a2, show List.range (2 - 1) = [0] from rfl,
      List.foldl_cons, List.foldl_nil]

/-- Words stored to a channel read back. -/
theorem sampleAt_writeBlock_same (s : State) (c : Nat) (ys : List F32) {i : Nat} (h : i < ys.length) :
    sampleAt (writeBlock c ys s) c i = ys.getD i 0 := by
  have e : saddr c i = saddr c 0 + 4 * i := by simp [saddr]
  unfold sampleAt
  rw [writeBlock_mem, e, Memory.readWord_writeWords_same _ _ _ _ h]
  simp [List.getD, h]

/-- A channel's words lie apart from another's: `i`, the block length, stays within `N_MAX`. -/
theorem sampleAt_writeBlock_other (s : State) (c d : Nat) (ys : List F32) {i : Nat} (hd : d ≠ c)
    (hy : ys.length ≤ 4096) (hi : i < 4096) : sampleAt (writeBlock c ys s) d i = sampleAt s d i := by
  unfold sampleAt
  rw [writeBlock_mem]
  apply Memory.readWord_writeWords_other
  unfold saddr
  rcases Nat.lt_or_gt_of_ne hd with h | h
  · have : 0x4000 * d + 0x4000 ≤ 0x4000 * c := by omega
    omega
  · have : 0x4000 * c + 0x4000 ≤ 0x4000 * d := by omega
    omega

/-- The bytes a block's words occupy are the block's. -/
theorem writeBlock_outside (s : State) (c : Nat) (ys : List F32) {a : Nat}
    (h : ∀ i, i < ys.length → ∀ k, k < 4 → a ≠ saddr c i + k) : (writeBlock c ys s).mem.read a = s.mem.read a := by
  rw [writeBlock_mem]
  apply Memory.read_writeWords_other
  by_contra hc
  push Not at hc
  have h4 : (a - saddr c 0) / 4 < ys.length := by omega
  refine h ((a - saddr c 0) / 4) h4 ((a - saddr c 0) % 4) (by omega) ?_
  simp only [saddr] at *
  omega

theorem writeBlock_wf {s : State} (h : s.mem.wf) (c : Nat) (ys : List F32) : (writeBlock c ys s).mem.wf := by
  rw [writeBlock_mem]; exact Memory.writeWords_wf h _ _

theorem writeBlock_mapped {s : State} (h : s.mem.mapped) {c : Nat} {ys : List F32} (hc : c < Config.cMax)
    (hy : ys.length ≤ Config.nMax) : (writeBlock c ys s).mem.mapped := by
  rw [writeBlock_mem]
  apply Memory.writeWords_mapped h
  · unfold saddr; omega
  · unfold saddr ramEnd; simp only [Config.cMax, Config.nMax] at *; omega

end Sys2Proof.Machine
end

