-- ==== Sys2Proof/Laws/Blocks.lean ====
section
/-!
SUPPORT. What a block command's rule does to sample RAM and to `NONF`: it keeps the canonical form, writes only the
block's bytes, and never clears `NONF`.
-/

namespace Sys2Proof.Machine

open Sys2Proof.Safety

/-- `t` comes from `s` by stores into the block of `n` channels and `ns` samples. -/
structure BlockStores (n ns : Nat) (s t : State) : Prop where
  wf : s.mem.wf → t.mem.wf
  mapped : n ≤ Config.cMax → ns ≤ Config.nMax → s.mem.mapped → t.mem.mapped
  outside : ∀ a, ¬ BlockByte n ns a → t.mem.read a = s.mem.read a
  epoch : t.mem.epoch = s.mem.epoch

theorem BlockStores.same {n ns : Nat} {s t : State} (h : t.mem = s.mem) : BlockStores n ns s t :=
  ⟨by rw [h]; exact id, by rw [h]; exact fun _ _ => id, by rw [h]; exact fun _ _ => rfl, by rw [h]⟩

theorem BlockStores.trans {n ns : Nat} {s t u : State} (h : BlockStores n ns s t) (g : BlockStores n ns t u) :
    BlockStores n ns s u :=
  ⟨fun w => g.wf (h.wf w), fun a b m => g.mapped a b (h.mapped a b m),
    fun a ha => (g.outside a ha).trans (h.outside a ha), g.epoch.trans h.epoch⟩

/-- Storing a channel's block. -/
theorem BlockStores.write {n c : Nat} (s : State) (ys : List F32) (hc : c < n) :
    BlockStores n ys.length s (writeBlock c ys s) := by
  refine ⟨fun h => writeBlock_wf h c ys, fun hn hl h => writeBlock_mapped h (by omega) hl, fun a ha => ?_, by simp⟩
  exact writeBlock_outside s c ys fun i hi k hk e => ha ⟨c, hc, i, hi, k, hk, e⟩

/-- Storing a channel's block of `ns` samples after changes outside memory. -/
theorem BlockStores.put {n ns c : Nat} {s t : State} {ys : List F32} (e : t.mem = s.mem) (hl : ys.length = ns)
    (hc : c < n) : BlockStores n ns s (writeBlock c ys t) :=
  hl ▸ (BlockStores.same e).trans (.write t ys hc)

/-- A loop over the channels, each pass storing its channel's block. -/
theorem BlockStores.loop {n ns : Nat} {f : Nat → State → State}
    (h : ∀ c t, c < n → BlockStores n ns t (f c t)) (s : State) : BlockStores n ns s (each n f s) :=
  each_keeps (p := fun t => BlockStores n ns s t) (fun c t hc ht => ht.trans (h c t hc)) (.same rfl)

theorem wsChannel_stores (p : WsSetup) {n ns c : Nat} (s : State) (hc : c < n) :
    BlockStores n ns s (wsChannel p ns c s) := by
  have h := BlockStores.write (n := n) (c := c)
    (note (readBlock s c ns) { s with ws := { s.ws with
      chan := vset s.ws.chan c (mapAccum (wsSample p) (vget s.ws.chan c WsChan.zero) (readBlock s c ns)).1 } })
    (mapAccum (wsSample p) (vget s.ws.chan c WsChan.zero) (readBlock s c ns)).2 hc
  rw [mapAccum_length, readBlock_length] at h
  exact (BlockStores.same (by simp)).trans h

theorem wsProcess_stores (par : Params) (ns : Nat) (s : State) : BlockStores (chans s) ns s (wsProcess par ns s) :=
  BlockStores.loop (fun _ t hc => wsChannel_stores _ t hc) s

theorem freeSamples_stores (d ns : Nat) (s : State) : BlockStores (chans s) ns s (freeSamples d ns s) := by
  refine BlockStores.loop (fun c t hc => ?_) s
  have h := BlockStores.write (n := chans s) t ((List.range ns).map (fun i => Config.freeCell d (.sample c i))) hc
  rwa [List.length_map, List.length_range] at h

theorem peqChannel_stores {n ns c : Nat} (s : State) (hc : c < n) : BlockStores n ns s (peqChannel ns c s) := by
  have h := BlockStores.write (n := n) (c := c)
    (note (readBlock s c ns) { s with peq := { s.peq with
      st := vset s.peq.st c (mapAccum (bandChain s.peq.band)
        (vget s.peq.st c (Vector.replicate Config.numBands BqState.zero)) (readBlock s c ns)).1 } })
    (mapAccum (bandChain s.peq.band)
      (vget s.peq.st c (Vector.replicate Config.numBands BqState.zero)) (readBlock s c ns)).2 hc
  rw [mapAccum_length, readBlock_length] at h
  exact (BlockStores.same (by simp)).trans h

/-- Changing fields other than memory first, then looping over the same channels. -/
theorem BlockStores.after {n ns : Nat} {s t u : State} (e : t.mem = s.mem) (h : BlockStores n ns t u) :
    BlockStores n ns s u := (BlockStores.same e).trans h

/-- A step over the channels of a state prepared like `s`. -/
theorem BlockStores.step {ns : Nat} {s t u : State} (e : t.prep = s.prep) (g : BlockStores (chans s) ns s t)
    (h : BlockStores (chans t) ns t u) : BlockStores (chans s) ns s u :=
  g.trans (by rwa [show chans t = chans s by simp [chans, e]] at h)

theorem peqProcess_stores (par : Params) (ns : Nat) (s : State) : BlockStores (chans s) ns s (peqProcess par ns s) := by
  unfold peqProcess
  split
  · exact .same rfl
  · unfold peqRun
    dsimp only
    refine (BlockStores.same ?_).step ?_ (BlockStores.loop (fun _ t hc => peqChannel_stores t hc) _)
    · simp
    · simp

theorem firChannel_stores (a b : Bool) (inst : Nat) {n ns c : Nat} (s : State) (hc : c < n) :
    BlockStores n ns s (firChannel a b ns inst c s) :=
  BlockStores.put (by simp) (by simp) hc

theorem firProcess_stores (par : Params) (ns inst : Nat) (s : State) :
    BlockStores (chans s) ns s (firProcess par ns inst s) := by
  unfold firProcess
  split
  · exact .same rfl
  · dsimp only
    split
    · exact .same rfl
    · refine BlockStores.after ?_ (BlockStores.loop (fun _ t hc => firChannel_stores _ _ _ t hc) _)
      rfl

theorem gainChannel_stores (gl : F32) {n ns c : Nat} (s : State) (hc : c < n) :
    BlockStores n ns s (gainChannel gl ns c s) := by
  have h := BlockStores.write (n := n) (c := c) (note (readBlock s c ns) s)
    ((readBlock s c ns).map (fun x => Fp.mul x gl)) hc
  rw [List.length_map, readBlock_length] at h
  exact (BlockStores.same (by simp)).trans h

theorem gain_stores (gdb : F32) (ns : Nat) (s : State) : BlockStores (chans s) ns s (gain gdb ns s) :=
  BlockStores.loop (fun _ t hc => gainChannel_stores _ t hc) s

@[simp] theorem applyGains_length (m : LmState) (ns : Nat) : (applyGains m ns).2.length = ns := by
  simp [applyGains]

theorem lmApply_stores (ns : Nat) (s : State) : BlockStores (chans s) ns s (lmApply ns s) := by
  unfold lmApply
  dsimp only
  refine BlockStores.after ?_ (BlockStores.loop (fun c t hc => ?_) _)
  · rfl
  · have h := BlockStores.write (n := chans s) (c := c) (note (readBlock t c ns) t)
      (List.zipWith Fp.mul (readBlock t c ns) (applyGains s.lm ns).2) hc
    rw [List.length_zipWith, readBlock_length, applyGains_length, Nat.min_self] at h
    exact (BlockStores.same (by simp)).trans h

theorem chainSteps_stores (par : Params) (ns : Nat) (s : State) : BlockStores (chans s) ns s (chainSteps par ns s) := by
  have h1 : BlockStores (chans s) ns s (lmAnalyzeIn ns s) := .same (by simp)
  have h2 := h1.step (by simp) (gain_stores par.inGainDb ns _)
  have h3 := h2.step (by simp) (firProcess_stores par ns 0 _)
  have h4 := h3.step (by simp) (wsProcess_stores par ns _)
  have h5 := h4.step (by simp) (peqProcess_stores par ns _)
  have h6 := h5.step (by simp) (firProcess_stores par ns 1 _)
  have h7 := h6.step (by simp) (gain_stores par.outGainDb ns _)
  exact (h7.trans (.same (by simp))).step (by simp) (lmApply_stores ns _)

theorem settle_stores {n ns : Nat} {f : Nat → State → State → State} {s t : State} (h : BlockStores n ns s t)
    (hf : ∀ d, BlockStores n ns t (f d s t)) : BlockStores n ns s (settle f s t) := by
  unfold settle
  split
  · exact (h.trans (hf s.draws)).trans (.same rfl)
  · exact h

theorem freeSamples_after {d ns : Nat} {s t u : State} (e : u.mem = t.mem) (p : u.prep = s.prep) :
    BlockStores (chans s) ns t (freeSamples d ns u) := by
  have h := freeSamples_stores d ns u
  rw [show chans u = chans s by simp [chans, p]] at h
  exact (BlockStores.same e).trans h

theorem freeChain_stores (par : Params) (ns d : Nat) {s t : State} (p : t.prep = s.prep) :
    BlockStores (chans s) ns t (freeChain par ns d s t) := by
  unfold freeChain
  exact freeSamples_after (by simp) (by simp [p])

/-- A block command's rule stores into its block only; every other rule leaves sample RAM alone. -/
theorem commandBody_stores {i : Instr} {r : Running} {s t : State} (h : commandBody i r s = .next t) :
    BlockStores (chans s) ((blockLength i).getD 0) s t := by
  cases i with
  | spaProduce ns =>
    obtain ⟨rfl, -, -⟩ := onSamples_cases h
    exact settle_stores (.same (by simp)) fun d => .same (by simp)
  | firProcess inst ns =>
    obtain ⟨rfl, -, -⟩ := onSamples_cases h
    exact settle_stores (firProcess_stores _ _ _ _) fun d => freeSamples_after (by simp) (by simp)
  | peqProcess ns =>
    obtain ⟨rfl, -, -⟩ := onSamples_cases h
    exact settle_stores (peqProcess_stores _ _ _) fun d => freeSamples_after (by simp) (by simp)
  | wsProcess ns =>
    obtain ⟨rfl, -, -⟩ := onSamples_cases h
    exact settle_stores (wsProcess_stores _ _ _) fun d => freeSamples_after (by simp) (by simp)
  | lmAnalyzeIn ns =>
    obtain ⟨rfl, -, -⟩ := onSamples_cases h
    exact settle_stores (.same (by simp)) fun d => .same (by simp)
  | lmAnalyzeOut ns =>
    obtain ⟨rfl, -, -⟩ := onSamples_cases h
    exact settle_stores (.same (by simp)) fun d => .same (by simp)
  | lmApply ns =>
    obtain ⟨rfl, -, -⟩ := onSamples_cases h
    exact settle_stores (lmApply_stores _ _) fun d => freeSamples_after (by simp) (by simp)
  | chainProcess ns =>
    obtain ⟨rfl, -, -⟩ := onSamples_cases h
    exact settle_stores (chainSteps_stores _ _ _) fun d => freeChain_stores _ _ _ (by simp)
  | wsCurve => cases h; exact settle_stores (.same (by simp)) fun d => .same rfl
  | nop => cases h; exact .same rfl
  | prepare => cases h; exact .same (by simp)
  | resetAll => cases h; exact .same (by simp)
  | spaReset => cases h; exact .same (by simp)
  | firReset _ => cases h; exact .same (by simp)
  | peqReset => cases h; exact .same (by simp)
  | wsReset => cases h; exact .same (by simp)
  | lmReset => cases h; exact .same (by simp)
  | _ => cases h; exact .same rfl

/-- No algorithm touches the oversamplers or the meters of its channel (R107). -/
@[simp] theorem algorithm_frame (alg : Nat) (ch : WsChan) (v : F32) :
    (algorithm alg ch v).1.osUp = ch.osUp ∧ (algorithm alg ch v).1.osDown = ch.osDown ∧
    (algorithm alg ch v).1.inMs = ch.inMs ∧ (algorithm alg ch v).1.inPk = ch.inPk ∧
    (algorithm alg ch v).1.outMs = ch.outMs ∧ (algorithm alg ch v).1.outPk = ch.outPk := by
  unfold algorithm
  split <;> exact ⟨rfl, rfl, rfl, rfl, rfl, rfl⟩

/-- What LM_APPLY leaves of the loudness unit. -/
theorem lmApply_lm (ns : Nat) (s : State) : (lmApply ns s).lm = { s.lm with gs := (applyGains s.lm ns).1 } :=
  each_field (g := State.lm) (fun c t => by simp) _

end Sys2Proof.Machine
end

