-- ==== Sys2Proof/Laws/Float.lean ====
section
/-!
SUPPORT. Comparisons of binary32 patterns as comparisons of their keys, what `min` and `max` answer, and where
an operation gives no NaN or a zero (R9, R11).
-/

namespace Sys2Proof.Machine.Fp

theorem lt_iff {a b : F32} : lt a b = true ↔ isNaN a = false ∧ isNaN b = false ∧ key a < key b := by
  simp [lt, and_assoc]

theorem le_iff {a b : F32} : le a b = true ↔ isNaN a = false ∧ isNaN b = false ∧ key a ≤ key b := by
  simp [le, and_assoc]

theorem eq_iff {a b : F32} : eq a b = true ↔ isNaN a = false ∧ isNaN b = false ∧ key a = key b := by
  simp [eq, and_assoc]

theorem gt_iff {a b : F32} : gt a b = true ↔ isNaN a = false ∧ isNaN b = false ∧ key b < key a := by
  simp [gt, lt_iff]; tauto

theorem ge_iff {a b : F32} : ge a b = true ↔ isNaN a = false ∧ isNaN b = false ∧ key b ≤ key a := by
  simp [ge, le_iff]; tauto

/-- `min` answers one of its arguments. -/
theorem min_cases (a b : F32) : (min a b = a ∧ lt b a = false) ∨ (min a b = b ∧ lt b a = true) := by
  unfold min; split <;> simp_all

/-- `max` answers one of its arguments. -/
theorem max_cases (a b : F32) : (max a b = a ∧ gt b a = false) ∨ (max a b = b ∧ gt b a = true) := by
  unfold max; split <;> simp_all

/-- `clamp` answers its argument or one of the bounds. -/
theorem clamp_mem (x lo hi : F32) : clamp x lo hi = x ∨ clamp x lo hi = lo ∨ clamp x lo hi = hi := by
  unfold clamp
  rcases max_cases x lo with h | h <;> rcases min_cases (max x lo) hi with g | g <;> simp_all

theorem isFinite_not_nan {x : F32} (h : isFinite x = true) : isNaN x = false := by
  simp only [isFinite, isNaN, decide_eq_true_eq, decide_eq_false_iff_not] at *
  omega

/-! ## NaNs -/

/-- `max` with a number that is not a NaN and greater than `z` is greater than `z`. -/
theorem gt_max {a b z : F32} (hb : gt b z = true) (ha : isNaN a = false) : gt (max a b) z = true := by
  rw [gt_iff] at hb ⊢
  rcases max_cases a b with ⟨h, g⟩ | ⟨h, -⟩
  · rw [h]
    refine ⟨ha, hb.2.1, ?_⟩
    have : ¬ key a < key b := fun k => by rw [gt_iff.2 ⟨hb.1, ha, k⟩] at g; exact nomatch g
    omega
  · rw [h]; exact hb

theorem ofBits_not_nan (s : Bool) {b : Nat} (h : b ≤ 0x7F800000) : isNaN (ofBits s b) = false := by
  cases s <;> simp only [isNaN, magBits, ofBits, BitVec.toNat_ofNat, decide_eq_false_iff_not] <;> simp <;>
    omega

/-- Rounding gives no NaN. -/
theorem roundRatio_not_nan (s : Bool) (num den : Nat) : isNaN (roundRatio s num den) = false := by
  unfold roundRatio
  dsimp only
  split
  · exact ofBits_not_nan s (Nat.le_refl _)
  · exact ofBits_not_nan s (by omega)

/-! ## Zeros -/

theorem isZero_add {a b : F32} (ha : isZero a = true) (hb : isZero b = true) :
    isZero (add a b) = true := by
  have za : units a = 0 := by simp_all [units, mag, isZero]
  have zb : units b = 0 := by simp_all [units, mag, isZero]
  have na : isNaN a = false ∧ isInf a = false := by simp_all [isNaN, isInf, isZero]
  have nb : isNaN b = false ∧ isInf b = false := by simp_all [isNaN, isInf, isZero]
  simp only [add, na, nb, za, zb, Bool.or_self, Bool.false_eq_true, if_false, Int.add_zero, if_true]
  cases signBit a && signBit b <;> rfl

theorem isZero_neg {a : F32} (h : isZero a = true) : isZero (neg a) = true := by
  have m : magBits a = 0 := by simpa [isZero] using h
  simp only [neg, isNaN, m, show (decide (0x7F800000 < 0)) = false from rfl, Bool.false_eq_true, if_false]
  cases signBit a <;> rfl

theorem isZero_sub {a b : F32} (ha : isZero a = true) (hb : isZero b = true) :
    isZero (sub a b) = true := by
  have na : isNaN a = false := by simp_all [isNaN, isZero]
  have nb : isNaN b = false := by simp_all [isNaN, isZero]
  simp only [sub, na, nb, Bool.or_self, Bool.false_eq_true, if_false]
  exact isZero_add ha (isZero_neg hb)

theorem roundRatio_zero (s : Bool) (d : Nat) : isZero (roundRatio s 0 d) = true := by
  have : roundRatio s 0 d = ofBits s 0 := by
    unfold roundRatio divEven
    simp
  rw [this]
  cases s <;> rfl

/-- A zero times a finite number is a zero. -/
theorem isZero_mul {a b : F32} (ha : isZero a = true) (hb : isFinite b = true) :
    isZero (mul a b) = true ∧ isZero (mul b a) = true := by
  have za : mag a = 0 := by simp_all [mag, isZero]
  have na : isNaN a = false ∧ isInf a = false := by simp_all [isNaN, isInf, isZero]
  have nb : isNaN b = false ∧ isInf b = false := by
    simp only [isFinite, isNaN, isInf, decide_eq_true_eq, decide_eq_false_iff_not] at *
    omega
  constructor <;> simp [mul, na, nb, za, roundRatio_zero]

end Sys2Proof.Machine.Fp
end

