-- ==== Sys2Proof/Laws/Open.lean ====
section
/-!
SUPPORT. What R6 says of the OPEN functions, once for each: the constraints hold whatever the opaque constants are.
-/

namespace Sys2Proof.Machine.Open

open Sys2Proof

/-- A constrained value meets its constraint where the substitute does. -/
theorem within_ok {ok : F32 → Bool} {raw dflt : F32} (h : ok dflt = true) : ok (within ok raw dflt) = true := by
  unfold within; split <;> assumption

/-- A constrained value is the OPEN one, which meets the constraint, or the substitute. -/
theorem within_cases (ok : F32 → Bool) (raw dflt : F32) :
    (within ok raw dflt = raw ∧ ok raw = true) ∨ within ok raw dflt = dflt := by
  unfold within; split <;> simp_all

/-- An accurate value is the substitute, or meets the constraint within `P_TRANS_ULP` ulps of the real value. -/
theorem accurate_cases (r : Int) (ok : F32 → Bool) (raw dflt : F32) :
    accurate r ok raw dflt = dflt ∨
      (Reference.near (Reference.tolerance Config.transUlp r) r (accurate r ok raw dflt) = true ∧
        ok (accurate r ok raw dflt) = true) := by
  unfold accurate within
  split
  · rename_i h
    exact .inr (by simpa using h)
  · exact .inl rfl

/-! ## Transcendental functions -/

/-- `EXP` is positive at finite arguments (R6). -/
theorem exp_pos {x : F32} (h : Fp.isFinite x = true) : Fp.gt (exp x) Fp.zero = true := by
  unfold exp
  split
  · decide
  · dsimp only
    rcases accurate_cases (Reference.exp (Reference.ofF32 x)) (fun y => Fp.gt y Fp.zero) (Config.expRaw x)
      (Fp.max (Reference.toF32 (Reference.exp (Reference.ofF32 x))) least) with e | e
    · rw [e]; exact Fp.gt_max (by decide) (Fp.roundRatio_not_nan _ _ _)
    · exact e.2

theorem exp_zero : exp Fp.zero = Fp.one := rfl
theorem pow10_zero : pow10 Fp.zero = Fp.one := rfl
theorem log10_one : log10 Fp.one = Fp.zero := rfl
theorem sin_zero : sin Fp.zero = Fp.zero := rfl
theorem cos_zero : cos Fp.zero = Fp.one := rfl
theorem tanh_zero : tanh Fp.zero = Fp.zero := rfl

/-- `TANH` is odd (R6). -/
theorem tanh_neg {x : F32} (h : Fp.isNaN x = false) (p : Fp.signBit x = true) :
    tanh x = Fp.neg (tanh (Fp.abs x)) := by
  have q : Fp.signBit (Fp.abs x) = false := by
    unfold Fp.signBit Fp.abs Fp.magBits
    rw [decide_eq_false_iff_not, BitVec.toNat_ofNat]
    have := x.isLt
    omega
  simp [tanh, h, p, q]

/-! ## Networks -/

/-- A linear network takes zeros to a zero. -/
theorem netEval_zero {word : Nat → F32} (h : ∀ j, Fp.isZero (word j) = true) :
    ∀ e : Config.Net, netLinear e = true → Fp.isZero (netEval word e) = true
  | .word j, _ => h j
  | .const _, g => nomatch g
  | .add a b, g => by
    simp only [netLinear, Bool.and_eq_true] at g
    exact Fp.isZero_add (netEval_zero h a g.1) (netEval_zero h b g.2)
  | .sub a b, g => by
    simp only [netLinear, Bool.and_eq_true] at g
    exact Fp.isZero_sub (netEval_zero h a g.1) (netEval_zero h b g.2)
  | .mul a b, g => by
    simp only [netLinear, Bool.or_eq_true, Bool.and_eq_true] at g
    have key : ∀ c : Config.Net, netFactor c = true → Fp.isFinite (netEval word c) = true := by
      intro c hc
      cases c <;> simp_all [netFactor, netEval]
    rcases g with ⟨ga, gb⟩ | ⟨ga, gb⟩
    · exact (Fp.isZero_mul (netEval_zero h b gb) (key a ga)).2
    · exact (Fp.isZero_mul (netEval_zero h a ga) (key b gb)).1

/-- What a network is held to: it is linear. -/
theorem linear_ok {raw dflt : Config.Net} (h : netLinear dflt = true) : netLinear (linear raw dflt) = true := by
  unfold linear; split <;> assumption

theorem osWord_zero {w : List F32} {s : OsState} (hw : w.all Fp.isZero = true) (hs : osIsZero s = true) (j : Nat) :
    Fp.isZero (osWord w s j) = true := by
  unfold osWord
  rw [List.getD_eq_getElem?_getD]
  rcases h : (w ++ s)[j]? with _ | x
  · rfl
  · have := List.mem_of_getElem? h
    rw [List.mem_append] at this
    rcases this with m | m
    · exact List.all_eq_true.1 hw x m
    · exact List.all_eq_true.1 hs x m

/-- Zero input from the zero state: zero output and the zero state (R6). -/
theorem osUp_zero {s : OsState} {x : F32} (hs : osIsZero s = true) (hx : Fp.isZero x = true) :
    osIsZero (osUp s x).1 = true ∧ (osUp s x).2.all Fp.isZero = true := by
  unfold osUp
  split
  · exact ⟨rfl, rfl⟩
  · have h := osWord_zero (w := [x]) (s := s) (by simpa using hx) hs
    constructor
    · simp only [osIsZero, List.all_map, List.all_eq_true]
      exact fun e _ => netEval_zero h _ (linear_ok rfl)
    · simp only [List.all_map, List.all_eq_true]
      exact fun k _ => netEval_zero h _ (linear_ok rfl)

/-- Zero input from the zero state: zero output and the zero state (R6). -/
theorem osDown_zero {s : OsState} {w : List F32} (hs : osIsZero s = true) (hw : w.all Fp.isZero = true) :
    osIsZero (osDown s w).1 = true ∧ Fp.isZero (osDown s w).2 = true := by
  unfold osDown
  split
  · exact ⟨rfl, rfl⟩
  · have h := osWord_zero hw hs
    constructor
    · simp only [osIsZero, List.all_map, List.all_eq_true]
      exact fun e _ => netEval_zero h _ (linear_ok rfl)
    · exact netEval_zero h _ (linear_ok rfl)

/-- `P_OS_UP` gives four samples (R106). -/
theorem osUp_four (s : OsState) (x : F32) : ∃ u0 u1 u2 u3, (osUp s x).2 = [u0, u1, u2, u3] := by
  unfold osUp
  split <;> exact ⟨_, _, _, _, rfl⟩

/-! ## Algorithms -/

/-- The stages of Tube in order, and the transformer (R108). -/
theorem tubePath_eq (v : F32) :
    tubePath v = if Fp.isZero v then Fp.zero
      else tubeXfmr (tubeStage 3 (Fp.max (tubeStage 2 (Fp.max (tubeStage 1 (Fp.max v Config.tubeCutoff))
        Config.tubeCutoff)) Config.tubeCutoff)) := by
  simp only [tubePath, tubeComposite, show List.range Config.tubeStages = [0, 1, 2] from rfl, List.foldl_cons,
    List.foldl_nil, Nat.zero_add, Nat.reduceAdd]

/-- `|P_TAPE_SAT(u)| <= 0.8` for every `u` (R6). -/
theorem tapeSat_le (u : F32) : Fp.le (Fp.abs (tapeSat u)) Config.tapeSatLvl = true :=
  within_ok (ok := fun y => Fp.le (Fp.abs y) Config.tapeSatLvl) (by decide)

/-- `P_FUZZ_VT` is positive (R6). -/
theorem fuzzVt_pos (d : F32) : Fp.gt (fuzzVt d) Fp.zero = true :=
  within_ok (ok := fun y => Fp.gt y Fp.zero) (by decide)

/-- The polynomial of `P_XS_LOW` is a cubic that takes zero to zero (R6). -/
theorem xsCubic_ok : netCubic xsCubic = true := by
  unfold xsCubic
  split
  · assumption
  · decide

end Sys2Proof.Machine.Open
end

