-- ==== Sys2Proof/Tests/Slice0.lean ====
section
/-!
SUPPORT. Tests of our own: which operands have an encoding, what the words written out in the spec decode to, single
steps against the values of 95_test_vectors.md (the vector is named in each comment), and a witness for the
hypotheses of each statement.
-/

namespace Sys2Proof.Tests

open Sys2Proof Sys2Proof.Machine Sys2Proof.Safety

/-! ## Helpers -/

/-- One field of the next state. -/
def got {α : Type} (r : Result) (f : State → α) : Option α :=
  match r with
  | .next s => some (f s)
  | _ => none

/-- `RD a`. -/
def rd (a : BitVec 18) : Except Reject Instr := decodeTxn ⟨false, a, 4, 0⟩

/-- `WR a, w`. -/
def wr (a : BitVec 18) (w : Word) : Except Reject Instr := decodeTxn ⟨true, a, 4, w⟩

/-- A bus transaction pending after reset. -/
def pend (s : State) (t : Txn) : State := { s with inbox := [.access (.bus t)] }

/-- Prepared at 48000 Hz, 512 samples, 2 channels. -/
def ready : State := { State.reset with prepared := true, prep := ⟨0x473B8000#32, 512, 2⟩ }

/-- Prepared for one channel of at most 4 samples, `S[0][0] = x`; the algorithm is Transistor. -/
def one (x : F32) : State :=
  { State.reset with
    prepared := true, prep := ⟨0x473B8000#32, 4, 1⟩, par := { Params.reset with algorithm := 2 }
    mem := Memory.writeWord ⟨0, []⟩ 0x10000 x }

/-- A running NOP. -/
def busyNop : State := { State.reset with run := some ⟨0, ⟨Params.reset, 0⟩, Cfg.reset, false⟩ }

/-! ## Operands without an encoding (R60, R64, R66) -/

theorem test_wf_ns :
    [Instr.spaProduce 65536, .firProcess 0 65536, .peqProcess 65536, .wsProcess 65536, .lmAnalyzeIn 65536,
      .lmAnalyzeOut 65536, .lmApply 65536, .chainProcess 65536].any Instr.wellFormed = false := by decide

theorem test_wf_inst : [Instr.firReset 2, .firProcess 2 1].any Instr.wellFormed = false := by decide

theorem test_wf_slot :
    [Instr.rdWsInRms 8, .rdWsInPeak 8, .rdWsOutRms 8, .rdWsOutPeak 8, .rdEqGain 8, .rdEqTarget 8,
      .rdEqSpectrum 8].any Instr.wellFormed = false := by decide

theorem test_wf_window :
    [Instr.rdSpec 1024, .rdBinfreq 1024, .rdSample 2 0, .rdSample 0 4096, .wrSample 2 0 0,
      .wrSample 0 4096 0].any Instr.wellFormed = false := by decide

theorem test_wf_largest :
    [Instr.spaProduce 65535, .firReset 1, .firProcess 1 65535, .rdEqSpectrum 7, .rdSpec 1023, .rdBinfreq 1023,
      .rdSample 1 4095, .wrSample 1 4095 0].all Instr.wellFormed = true := by decide

/-! ## Decoding of words written out from the spec -/

/-- E1 to E17: every command. -/
theorem test_decode_commands :
    decodeCommand 0x00000000#32 = .ok .nop ∧ decodeCommand 0x00000001#32 = .ok .prepare ∧
    decodeCommand 0x00000002#32 = .ok .resetAll ∧ decodeCommand 0x00000010#32 = .ok .spaReset ∧
    decodeCommand 0x02000011#32 = .ok (.spaProduce 512) ∧ decodeCommand 0x00000020#32 = .ok (.firReset 0) ∧
    decodeCommand 0x00000120#32 = .ok (.firReset 1) ∧ decodeCommand 0x02000021#32 = .ok (.firProcess 0 512) ∧
    decodeCommand 0x02000121#32 = .ok (.firProcess 1 512) ∧ decodeCommand 0x00000030#32 = .ok .peqReset ∧
    decodeCommand 0x00040031#32 = .ok (.peqProcess 4) ∧ decodeCommand 0x00000040#32 = .ok .wsReset ∧
    decodeCommand 0x00010041#32 = .ok (.wsProcess 1) ∧ decodeCommand 0x00000042#32 = .ok .wsCurve ∧
    decodeCommand 0x00000050#32 = .ok .lmReset ∧ decodeCommand 0x10000051#32 = .ok (.lmAnalyzeIn 4096) ∧
    decodeCommand 0xFFFF0052#32 = .ok (.lmAnalyzeOut 65535) ∧ decodeCommand 0x00020053#32 = .ok (.lmApply 2) ∧
    decodeCommand 0x00400060#32 = .ok (.chainProcess 64) ∧ decodeCommand 0x02000060#32 = .ok (.chainProcess 512) := by
  decide

/-- E19 to E22. -/
theorem test_decode_bad_commands :
    [0x00000140#32, 0x00000210#32, 0x00010010#32, 0x00000003#32, 0x0000007F#32, 0x000000FF#32].all
      (fun w => decodeCommand w == .error .badCmd) = true := by decide

/-- R22, R66: the control registers. -/
theorem test_decode_control :
    rd 0x00000#18 = .ok .rdId ∧ rd 0x00004#18 = .ok .rdVersion ∧ rd 0x00008#18 = .ok .rdCmd ∧
    rd 0x0000C#18 = .ok .rdStatus ∧ rd 0x00010#18 = .ok .rdErrCode ∧ rd 0x00014#18 = .ok .rdErrInfo ∧
    rd 0x00018#18 = .ok .rdIrqEn ∧ rd 0x0001C#18 = .ok .rdArg ∧ rd 0x00020#18 = .ok .rdResult ∧
    rd 0x00030#18 = .ok .rdCfgFs ∧ rd 0x00034#18 = .ok .rdCfgMaxblock ∧ rd 0x00038#18 = .ok .rdCfgChannels ∧
    rd 0x00040#18 = .ok .rdPrepFs ∧ rd 0x00044#18 = .ok .rdPrepMaxblock ∧ rd 0x00048#18 = .ok .rdPrepChannels ∧
    wr 0x00008#18 9 = .ok (.wrCmd 9) ∧ wr 0x0000C#18 9 = .ok (.wrStatus 9) ∧ wr 0x00018#18 9 = .ok (.wrIrqEn 9) ∧
    wr 0x0001C#18 9 = .ok (.wrArg 9) ∧ wr 0x00030#18 9 = .ok (.wrCfgFs 9) ∧
    wr 0x00034#18 9 = .ok (.wrCfgMaxblock 9) ∧ wr 0x00038#18 9 = .ok (.wrCfgChannels 9) := by decide

/-- R31, R66: the parameter registers. -/
theorem test_decode_params :
    rd 0x00100#18 = .ok .rdInGainDb ∧ rd 0x00104#18 = .ok .rdOutGainDb ∧ rd 0x00108#18 = .ok .rdDriveDb ∧
    rd 0x0010C#18 = .ok .rdMixPct ∧ rd 0x00110#18 = .ok .rdAlgorithm ∧ rd 0x00114#18 = .ok .rdSolo ∧
    rd 0x00118#18 = .ok .rdLowcutHz ∧ rd 0x0011C#18 = .ok .rdHighcutHz ∧ rd 0x00120#18 = .ok .rdFilterEn ∧
    rd 0x00124#18 = .ok .rdEqEn ∧ rd 0x00128#18 = .ok .rdEqCurve ∧ rd 0x0012C#18 = .ok .rdEqStrengthPct ∧
    rd 0x00130#18 = .ok .rdEqReactionMs ∧
    wr 0x00100#18 9 = .ok (.wrInGainDb 9) ∧ wr 0x00104#18 9 = .ok (.wrOutGainDb 9) ∧
    wr 0x00108#18 9 = .ok (.wrDriveDb 9) ∧ wr 0x0010C#18 9 = .ok (.wrMixPct 9) ∧
    wr 0x00110#18 9 = .ok (.wrAlgorithm 9) ∧ wr 0x00114#18 9 = .ok (.wrSolo 9) ∧
    wr 0x00118#18 9 = .ok (.wrLowcutHz 9) ∧ wr 0x0011C#18 9 = .ok (.wrHighcutHz 9) ∧
    wr 0x00120#18 9 = .ok (.wrFilterEn 9) ∧ wr 0x00124#18 9 = .ok (.wrEqEn 9) ∧
    wr 0x00128#18 9 = .ok (.wrEqCurve 9) ∧ wr 0x0012C#18 9 = .ok (.wrEqStrengthPct 9) ∧
    wr 0x00130#18 9 = .ok (.wrEqReactionMs 9) := by decide

/-- R32, R66: the monitor registers, at a first or a last slot (E25). -/
theorem test_decode_monitors :
    rd 0x00200#18 = .ok (.rdWsInRms 0) ∧ rd 0x0023C#18 = .ok (.rdWsInPeak 7) ∧
    rd 0x00240#18 = .ok (.rdWsOutRms 0) ∧ rd 0x00264#18 = .ok (.rdWsOutPeak 1) ∧
    rd 0x00280#18 = .ok (.rdEqGain 0) ∧ rd 0x002BC#18 = .ok (.rdEqTarget 7) ∧
    rd 0x002DC#18 = .ok (.rdEqSpectrum 7) ∧ rd 0x002E0#18 = .ok .rdLmCompDb ∧ rd 0x002E4#18 = .ok .rdLmInLoud ∧
    rd 0x002E8#18 = .ok .rdLmOutLoud ∧ rd 0x002EC#18 = .ok .rdLmTarget ∧ rd 0x002F0#18 = .ok .rdLmGainLin ∧
    rd 0x002F4#18 = .ok .rdSpaWpos ∧ rd 0x002F8#18 = .ok .rdSpaCount := by decide

/-- E24, E26 and R43: the RAM windows. -/
theorem test_decode_windows :
    rd 0x08FFC#18 = .ok (.rdSpec 1023) ∧ rd 0x09004#18 = .ok (.rdBinfreq 1) ∧
    rd 0x147FC#18 = .ok (.rdSample 1 511) ∧ rd 0x13FFC#18 = .ok (.rdSample 0 4095) ∧
    wr 0x14014#18 9 = .ok (.wrSample 1 5 9) ∧ wr 0x17FFC#18 9 = .ok (.wrSample 1 4095 9) := by decide

/-- E27, E28, X6, X7, X8, S12 and the map's ends (R43, R45, R46). -/
theorem test_decode_refused :
    wr 0x08000#18 0 = .error .badAddr ∧ rd 0x002FC#18 = .error .badAddr ∧ rd 0x00002#18 = .error .badAccess ∧
    decodeTxn ⟨true, 0x10001#18, 1, 0⟩ = .error .badAccess ∧ wr 0x00000#18 0 = .error .badAddr ∧
    rd 0x18000#18 = .error .badAddr ∧ rd 0x0A000#18 = .error .badAddr ∧ rd 0x3FFFC#18 = .error .badAddr ∧
    wr 0x00200#18 0 = .error .badAddr ∧ decodeTxn ⟨false, 0x10000#18, 2, 0⟩ = .error .badAccess := by decide

/-- The opcode table's numbering: a command word, and E23 and E24 as bus keys. -/
theorem test_decode_table :
    decodeTableWord 32 0x00000120 = some (.firReset 1) ∧ decodeTableWord 24 0x4000C = some (.wrStatus 0) ∧
    decodeTableWord 24 0x0000C = some .rdStatus ∧ decodeTableWord 24 0x54014 = some (.wrSample 1 5 0) := by decide

/-! ## Arithmetic (R8, R9, R11; values of IEEE 754) -/

/-- 0.1 + 0.2, 1 + 2^-24 (a tie to even), the largest value doubled, 1 - 1, and -0 + -0. -/
theorem test_fp_add :
    Fp.add 0x3DCCCCCD#32 0x3E4CCCCD#32 = 0x3E99999A#32 ∧ Fp.add 0x3F800000#32 0x33800000#32 = 0x3F800000#32 ∧
    Fp.add 0x7F7FFFFF#32 0x7F7FFFFF#32 = 0x7F800000#32 ∧ Fp.sub 0x3F800000#32 0x3F800000#32 = 0x00000000#32 ∧
    Fp.add 0x80000000#32 0x80000000#32 = 0x80000000#32 := by decide +kernel

/-- W10's product, half of the smallest subnormal (a tie to zero), 1/3, 1/0, and the roots of 2 and of 2^-149. -/
theorem test_fp_mul_div_sqrt :
    Fp.mul 0x3D4CCCCD#32 0x3F733333#32 = 0x3D428F5C#32 ∧ Fp.mul 0x00000001#32 0x3F000000#32 = 0x00000000#32 ∧
    Fp.div 0x3F800000#32 0x40400000#32 = 0x3EAAAAAB#32 ∧ Fp.div 0xBF800000#32 0x00000000#32 = 0xFF800000#32 ∧
    Fp.sqrt 0x40000000#32 = 0x3FB504F3#32 ∧ Fp.sqrt 0x00000001#32 = 0x1A3504F3#32 := by decide +kernel

/-- Both zeros are equal, a NaN is equal to nothing; 512 and -3 as floats; the floor of -0.5. -/
theorem test_fp_compare :
    Fp.eq 0x80000000#32 0x00000000#32 = true ∧ Fp.eq 0x7FC00000#32 0x7FC00000#32 = false ∧
    Fp.lt 0xBF800000#32 0x80000000#32 = true ∧ Fp.ofInt 512 = 0x44000000#32 ∧ Fp.ofInt (-3) = 0xC0400000#32 ∧
    Fp.floor 0xBF000000#32 = -1 := by decide +kernel

/-! ## The OPEN functions (R6) -/

/-- The real functions rounded once: e, W4's POW10(0.3), M1's LOG10(2), and sine and cosine of 1 (IEEE 754 values). -/
theorem test_reference :
    Reference.toF32 (Reference.exp (Reference.ofF32 0x3F800000#32)) = 0x402DF854#32 ∧
    Reference.toF32 (Reference.pow10 (Reference.ofF32 0x3E99999A#32)) = 0x3FFF64C2#32 ∧
    Reference.toF32 (Reference.log10 (Reference.ofF32 0x40000000#32)) = 0x3E9A209B#32 ∧
    Reference.toF32 (Reference.sin (Reference.ofF32 0x3F800000#32)) = 0x3F576AA4#32 ∧
    Reference.toF32 (Reference.cos (Reference.ofF32 0x3F800000#32)) = 0x3F0A5140#32 := by decide +kernel

/-- R106's defaults are linear networks: a held sample, the mean of four (-0.0 held, and 0.25 of 1, 2, 3, 4). -/
theorem test_oversampler_default :
    Open.netLinear Open.osUpDflt = true ∧ Open.netLinear Open.osDownDflt = true ∧
    Open.netEval (Open.osWord [0x80000000#32] []) Open.osUpDflt = 0x80000000#32 ∧
    Open.netEval (Open.osWord [0x3F800000#32, 0x40000000#32, 0x40400000#32, 0x40800000#32] []) Open.osDownDflt =
      0x40200000#32 := by decide +kernel

/-- D61: the diode takes either zero to zero. -/
theorem test_diode_zero : Open.exp 0x80000000#32 = Fp.one ∧ Open.tanh Fp.zero = Fp.zero := by decide +kernel

/-! ## System commands and control registers -/

/-- S1. -/
theorem test_reads_after_reset :
    got (exec .rdId State.reset) (·.rdata) = some 0x57464641#32 ∧
    got (exec .rdVersion State.reset) (·.rdata) = some 0x00000001#32 ∧
    got (exec .rdStatus State.reset) (·.rdata) = some 0x00000000#32 := by decide

/-- S2. -/
theorem test_nop : got (exec .nop State.reset) statusWord = some 0x00000002#32 := by decide

/-- S3 and A1. -/
theorem test_prepare :
    got (exec .prepare { State.reset with cfg := ⟨0x473B8000#32, 512, 2⟩ })
      (fun t => (statusWord t, t.prep, vget t.spa.binfreq 1 0, vget t.spa.binfreq 1023 0)) =
      some (0x00000042#32, ⟨0x473B8000#32, 512, 2⟩, 0x41BB8000#32, 0x46BB5120#32) := by decide +kernel

/-- The band-to-bin map at 48000 and 44100 Hz (R117). -/
theorem test_band_bins :
    (List.range 8).map (bandBin 0x473B8000#32) = [3, 9, 21, 51, 128, 256, 512, 683] ∧
    (List.range 8).map (bandBin 0x472C4400#32) = [4, 9, 23, 56, 139, 279, 557, 743] := by decide +kernel

/-- S4, S5, S7 and P3 step 12: a NaN, both zeros, 4097, 0 and 3 channels are refused; S6 is not. -/
theorem test_config_checks :
    cfgOk ⟨0x7FC00000#32, 512, 2⟩ = false ∧ cfgOk ⟨0x00000000#32, 512, 2⟩ = false ∧
    cfgOk ⟨0x80000000#32, 512, 2⟩ = false ∧ cfgOk ⟨0x473B8000#32, 4097, 2⟩ = false ∧
    cfgOk ⟨0x473B8000#32, 0, 2⟩ = false ∧ cfgOk ⟨0x473B8000#32, 512, 3⟩ = false ∧
    cfgOk ⟨0x00000001#32, 4096, 2⟩ = true := by decide

/-- S4. -/
theorem test_bad_config :
    got (exec .prepare { ready with cfg := ⟨0x7FC00000#32, 512, 2⟩ }) (fun t => (t.errCode, t.errInfo, t.prep)) =
      some (.badConfig, 0x00000001#32, ready.prep) := by decide

/-- S8. -/
theorem test_clear_error :
    got (exec (.wrStatus 0x04#32) { State.reset with
        done := true, err := true, specNew := true, errCode := .busyCmd, errInfo := 7 })
      (fun t => (statusWord t, errCodeWord t, t.errInfo)) = some (0x22#32, 0, 0) := by decide

/-- S9. -/
theorem test_clear_all :
    got (exec (.wrStatus 0xFF#32) { ready with
        done := true, err := true, nonfinite := true, pnan := true, specNew := true, errCode := .badCmd
        lm := { LmState.reset with targetValid := true } }) statusWord = some 0xC0#32 := by decide

/-- S10 and S11. -/
theorem test_irq_en_and_arg :
    got (exec (.wrIrqEn 0xFFFFFFFF#32) State.reset) (·.irqEn) = some 0x00000026#32 ∧
    got (exec (.wrArg 0x7F800001#32) State.reset) (·.arg) = some 0x7F800001#32 := by decide

/-- S12, as a transaction. -/
theorem test_write_id :
    got (step (pend State.reset ⟨true, 0x00000#18, 4, 0⟩)) (fun t => (t.errCode, t.errInfo, t.rdata)) =
      some (.badAddr, 0, 0) := by decide

/-! ## Parameters -/

/-- P1 to P4. -/
theorem test_gain_writes :
    got (exec (.wrInGainDb 0x42480000#32) State.reset) (·.par.inGainDb) = some 0x42200000#32 ∧
    got (exec (.wrOutGainDb 0xC2C80000#32) State.reset) (·.par.outGainDb) = some 0xC2200000#32 ∧
    got (exec (.wrInGainDb 0xFF800000#32) State.reset) (·.par.inGainDb) = some 0xC2200000#32 ∧
    got (exec (.wrDriveDb 0x42340000#32) State.reset) (·.par.driveDb) = some 0x41F00000#32 := by decide

/-- P5 to P8. -/
theorem test_drive_writes :
    got (exec (.wrDriveDb 0x7FC00000#32) State.reset) (fun t => (t.par.driveDb, t.pnan)) = some (0, true) ∧
    got (exec (.wrDriveDb 0xFFC00001#32) State.reset) (fun t => (t.par.driveDb, t.pnan)) = some (0, true) ∧
    got (exec (.wrDriveDb 0x80000000#32) State.reset) (·.par.driveDb) = some 0x80000000#32 ∧
    got (exec (.wrDriveDb 0x00000001#32) State.reset) (·.par.driveDb) = some 0x00000001#32 := by decide

/-- P9, P12, P13, P16, P17. -/
theorem test_float_writes :
    got (exec (.wrMixPct 0x43160000#32) State.reset) (·.par.mixPct) = some 0x42C80000#32 ∧
    got (exec (.wrLowcutHz 0x40A00000#32) State.reset) (·.par.lowcutHz) = some 0x40A00000#32 ∧
    got (exec (.wrHighcutHz 0x46C35000#32) State.reset) (·.par.highcutHz) = some 0x46C35000#32 ∧
    got (exec (.wrEqStrengthPct 0xC0A00000#32) State.reset) (·.par.eqStrengthPct) = some 0x00000000#32 ∧
    got (exec (.wrEqReactionMs 0x3F800000#32) State.reset) (·.par.eqReactionMs) = some 0x41200000#32 ∧
    got (exec (.wrEqReactionMs 0x459C4000#32) State.reset) (·.par.eqReactionMs) = some 0x447A0000#32 := by decide

/-- P10, P11, P14, P15. -/
theorem test_int_writes :
    got (exec (.wrAlgorithm 7) State.reset) (·.par.algorithm) = some 4 ∧
    got (exec (.wrAlgorithm 0x80000000#32) State.reset) (·.par.algorithm) = some 0 ∧
    got (exec (.wrEqCurve 5) State.reset) (·.par.eqCurve) = some 4 ∧
    got (exec (.wrEqCurve 0xFFFFFFFD#32) State.reset) (·.par.eqCurve) = some 0 ∧
    got (exec (.wrSolo 3) State.reset) (·.par.solo) = some 1 ∧
    got (exec (.wrSolo 2) State.reset) (·.par.solo) = some 0 ∧
    got (exec (.wrEqEn 0x10) State.reset) (·.par.eqEn) = some 0 ∧
    got (exec (.wrFilterEn 1) State.reset) (·.par.filterEn) = some 1 := by decide

/-! ## Errors, priorities, interrupt -/

/-- X1 and X2. -/
theorem test_not_prepared :
    got (exec (.wrCmd 0x00400011#32) State.reset) (fun t => (statusWord t, errCodeWord t, t.errInfo)) =
      some (0x04#32, 0x02#32, 0x00400011#32) ∧
    got (exec (.wrCmd 0x000000FF#32) (raise .notPrepared 0x00400011#32 State.reset))
      (fun t => (errCodeWord t, t.errInfo)) = some (0x102#32, 0x00400011#32) := by decide

/-- X3, X4, X5. -/
theorem test_command_priorities :
    got (exec (.wrCmd 0x000000FF#32) busyNop) (·.errCode) = some .busyCmd ∧
    got (exec (.wrCmd 0x00000060#32) State.reset) (·.errCode) = some .notPrepared ∧
    got (exec (.wrCmd 0x02010060#32) ready) (fun t => (t.errCode, t.errInfo)) =
      some (.badCount, 0x02010060#32) := by decide

/-- X6. -/
theorem test_misaligned_read :
    got (step (pend { State.reset with rdata := 5 } ⟨false, 0x00002#18, 4, 0⟩))
      (fun t => (t.errCode, t.errInfo, t.rdata)) = some (.badAccess, 2, 0) := by decide

/-- X7, X8, X9. -/
theorem test_busy_accesses :
    got (step (pend busyNop ⟨true, 0x10001#18, 1, 0⟩)) (·.errCode) = some .badAccess ∧
    got (step (pend busyNop ⟨true, 0x08000#18, 4, 0⟩)) (·.errCode) = some .badAddr ∧
    got (step (pend { busyNop with rdata := 5 } ⟨false, 0x10000#18, 4, 0⟩))
      (fun t => (t.errCode, t.errInfo, t.rdata)) = some (.busyRam, 0x00010000#32, 0) := by decide

/-- X10. -/
theorem test_busy_monitor : got (exec (.rdWsInRms 0) busyNop) (fun t => (t.err, t.draws)) = some (false, 1) := by
  decide

/-- X11, X12, X13. -/
theorem test_irq :
    got (exec .nop { State.reset with irqEn := 2 }) irq = some true ∧
    got (exec (.wrIrqEn 4) { State.reset with err := true }) irq = some true ∧
    irq { State.reset with irqEn := 0x26, nonfinite := true, pnan := true } = false := by decide

/-! ## Units -/

/-- W6 at 30 and 50 percent, W7, and W8. -/
theorem test_mix_and_drift :
    mix 0x3E800000#32 0x3F4CCCCD#32 (Fp.div 0x41F00000#32 Fp.hundred) false = 0x3ED47AE2#32 ∧
    mix 0x3E800000#32 0x3F4CCCCD#32 (Fp.div 0x42480000#32 Fp.hundred) false = 0x3F066666#32 ∧
    mix 0x3E800000#32 0x3F4CCCCD#32 Fp.half true = 0x3F4CCCCD#32 ∧
    (fuzz WsChan.zero Fp.one).1.fuzzDrift = 0x3A83126F#32 := by decide +kernel

/-- W1: the Transistor's form of it, silence in and silence out (R6, R114, R116). -/
theorem test_ws_curve_silence :
    got (exec .wsCurve { one 0 with result := 5 }) (fun t => (t.result, t.done, t.nonfinite)) =
      some (0, true, false) := by decide +kernel

/-- W3. -/
theorem test_ws_curve_infinite :
    got (exec .wsCurve { one 0 with arg := 0x7F800000#32 }) (·.nonfinite) = some true := by decide +kernel

/-- A6. -/
theorem test_mono :
    mono { ready with mem := (Memory.writeWord ⟨0, []⟩ 0x10000 0x3F000000#32).writeWord 0x14000 0xBE800000#32 } 0 =
      0x3E000000#32 := by decide +kernel

/-- A4, with one sample: the position advances, no analysis. -/
theorem test_spa_produce :
    got (exec (.spaProduce 1) (one 0x3F000000#32))
      (fun t => (t.spa.wpos, t.spa.count, t.specNew, vget t.spa.buf 0 0)) =
      some (1, 0, false, 0x3F000000#32) := by decide +kernel

/-- R133: the sample that fills the buffer makes an analysis; A8: of silence. -/
theorem test_spa_wrap :
    got (exec (.spaProduce 1) { one 0 with spa := { SpaState.reset with wpos := 2047 } })
      (fun t => (t.spa.wpos, t.spa.count, t.specNew, vget t.spa.spec 5 1)) = some (0, 1, true, 0) := by
  decide +kernel

/-- Q10: the gate stays shut at 0.05 dB; at 0.2 dB it opens (R124). -/
theorem test_eq_gate :
    (gate 0x473B8000#32 0 { EqBand.reset with sgain := 0x3D4CCCCD#32 }).coef = Biquad.kid ∧
    (gate 0x473B8000#32 0 { EqBand.reset with sgain := 0x3E4CCCCD#32 }).gain = 0x3E4CCCCD#32 := by decide +kernel

/-- Q1 from its coefficient on, and Q3's clamp. -/
theorem test_eq_loop :
    (smoothSpectrum 0x3F661969#32 Config.eqDbFloor EqBand.reset).sspec = 0xC0C2416C#32 ∧
    (smoothGain (eqTargetStep { Params.reset with eqStrengthPct := 0x42C80000#32 } 0
      { EqBand.reset with sspec := 0xC0C2416C#32 })).target = 0x40C2416C#32 ∧
    (smoothGain (eqTargetStep { Params.reset with eqStrengthPct := 0x42C80000#32 } 0
      { EqBand.reset with sspec := 0xC0C2416C#32 })).sgain = 0x3E9B678A#32 ∧
    (eqTargetStep { Params.reset with eqStrengthPct := 0x42C80000#32 } 0
      { EqBand.reset with sspec := 0xC18372CE#32 }).target = 0x41400000#32 := by decide +kernel

/-- R128: disabled, nothing is touched. -/
theorem test_peq_disabled :
    got (exec (.peqProcess 1) (one 0x3F000000#32)) (fun t => (t.spa.wpos, sampleAt t 0 0, statusWord t)) =
      some (0, 0x3F000000#32, 0x42#32) := by decide +kernel

/-- R17 and R18: KID passes a sample through. -/
theorem test_biquad_identity : bq Biquad.kid BqState.zero 0x3E800000#32 = (0x3E800000#32, BqState.zero) := by
  decide +kernel

/-- F5 to F9 at 48000 and 44100 Hz. -/
theorem test_cutoffs :
    lowCut { Params.reset with lowcutHz := 0x46EA6000#32 } 0x473B8000#32 = 0x46A8C000#32 ∧
    lowBypass { Params.reset with lowcutHz := 0x40A00000#32 } 0x473B8000#32 = true ∧
    lowBypass { Params.reset with lowcutHz := 0x46EA6000#32 } 0x473B8000#32 = false ∧
    highBypass { Params.reset with highcutHz := 0x46C35000#32 } = true ∧
    highCut { Params.reset with highcutHz := 0x469C3E00#32 } 0x472C4400#32 = 0x469B0A00#32 ∧
    highBypass { Params.reset with highcutHz := 0x469C3E00#32 } = false := by decide +kernel

/-- F11 and F12: 12000.05 and 12000.5 against a realised 12000.0. -/
theorem test_redesign_gate :
    highStale { Params.reset with highcutHz := 0x463B8033#32 } 0x473B8000#32
      { FirInst.reset with frHc := 0x463B8000#32 } = false ∧
    highStale { Params.reset with highcutHz := 0x463B8200#32 } 0x473B8000#32
      { FirInst.reset with frHc := 0x463B8000#32 } = true := by decide +kernel

/-- R146: the delay line takes the sample at its start; a bypassed pair passes the sample (R143). -/
theorem test_fir_step :
    (vget (firStep (Vector.replicate 511 0) (vset (Vector.replicate 510 0) 0 0x40000000#32) Fp.one).1 0 0,
      vget (firStep (Vector.replicate 511 0) (vset (Vector.replicate 510 0) 0 0x40000000#32) Fp.one).1 1 0,
      (firSample true true FirInst.reset (noLine, noLine) 0x3F000000#32).2) =
      (0x3F800000#32, 0x40000000#32, 0x3F000000#32) := by decide +kernel

/-- M2's and M3's update from a clamped difference, M5, and R154's engage threshold (M8). -/
theorem test_compensation :
    Fp.add (Fp.mul 0 Config.lmGOld) (Fp.mul Config.lmDiffMax Config.lmGNew) = 0x3F19999A#32 ∧
    compAfter { LmState.reset with targetValid := true, compDb := 0x3F800000#32 } Fp.one = 0x3F800000#32 ∧
    applyTarget { LmState.reset with compDb := 0x3D4CCCCD#32 } = Fp.one := by decide +kernel

/-- M6. -/
theorem test_analyze_silence :
    got (exec (.lmAnalyzeIn 1) (one 0)) (fun t => (t.lm.inLoud, t.lm.target, t.lm.targetValid, statusWord t)) =
      some (0, 0, true, 0xC2#32) := by decide +kernel

/-- P1 steps 10 to 14 with one silent sample. -/
theorem test_chain_silence :
    got (exec (.chainProcess 1) (one 0))
      (fun t => (sampleAt t 0 0, statusWord t, t.lm.compDb, t.lm.target, t.spa.wpos)) =
      some (0, 0xC2#32, 0, 0, 0) := by decide +kernel

/-- R172: a NaN sample sets NONFINITE, and the loudness is a free value. -/
theorem test_nan_sample :
    got (exec (.lmAnalyzeIn 1) (one 0x7FC00000#32)) (fun t => (statusWord t, t.draws)) = some (0xCA#32, 1) := by
  decide +kernel

/-- R44: the bytes of a stored word, lowest address first. -/
theorem test_sample_write :
    got (exec (.wrSample 0 1 0x11223344#32) State.reset) (·.mem.cells) =
      some [(0x10004, 0x44#8), (0x10005, 0x33#8), (0x10006, 0x22#8), (0x10007, 0x11#8)] := by decide

/-- R160: a slot beyond the prepared channels reads 0. -/
theorem test_meter_slot :
    got (exec (.rdWsInRms 0) { one 0 with ws := { WsState.reset with
      chan := Vector.replicate 2 { WsChan.zero with inMs := 0x40800000#32 } } }) (·.rdata) = some 0x40000000#32 ∧
    got (exec (.rdWsInRms 1) { one 0 with ws := { WsState.reset with
      chan := Vector.replicate 2 { WsChan.zero with inMs := 0x40800000#32 } } }) (·.rdata) = some 0 := by
  decide +kernel

/-! ## Witnesses: a state and operands that meet the hypotheses of each statement -/

theorem legal_params : LegalParams Params.reset := by constructor <;> decide

/-- A legal state in which a command runs. -/
theorem legal_busyNop : Legal busyNop where
  params := legal_params
  irqEn := by decide
  noError := fun _ => ⟨rfl, rfl, rfl⟩
  error := fun h => nomatch h
  prepared := fun h => nomatch h
  unprepared := fun _ => rfl
  target := fun _ => rfl
  run := fun r h => by
    cases h
    exact ⟨legal_params, fun _ => ⟨.nop, by decide, rfl⟩, rfl⟩
  memWf := List.Pairwise.nil
  memMapped := fun _ h => nomatch h

theorem config_one (x : F32) : cfgOk (one x).prep = true :=
  have h : cfgOk (one 0).prep = true := by decide
  h

/-- A block command of one sample is ready, and of the most samples prepared. -/
theorem ready_one (x : F32) : Ready 1 (one x) ∧ Ready 4 (one x) :=
  ⟨⟨rfl, rfl, config_one x, Nat.le_refl 1, show 1 ≤ 4 by decide⟩,
    ⟨rfl, rfl, config_one x, by decide, show 4 ≤ 4 by decide⟩⟩

theorem finite_one : FiniteBlock 1 (one 0) := by
  intro c hc i hi
  have h : chans (one 0) = 1 := by decide
  rw [show c = 0 by omega, show i = 0 by omega]
  decide

theorem infinite_one : ¬ FiniteBlock 1 (one 0x7F800000#32) := by
  intro h
  have := h 0 (by decide) 0 (by decide)
  revert this
  decide

/-- The configuration of `ready`, and the two ends of what is accepted (R74). -/
theorem config_ok :
    cfgOk ⟨0x473B8000#32, 1, 1⟩ = true ∧ cfgOk ⟨0x00000001#32, 4096, 2⟩ = true := by decide

theorem witness_DecodeEncode :
    (Instr.firProcess 1 65535).wellFormed = true ∧ (Instr.wrSample 1 4095 0).wellFormed = true := by decide

theorem witness_ReservedCommandWords : Idle State.reset ∧ (0x00000003#32 : Word).extractLsb' 0 8 = 0x03 ∧
    (0x00000140#32 : Word).getLsbD 8 = true ∧
    (0x00000210#32 : Word).extractLsb' 9 7 ≠ 0 ∧ (0x00010010#32 : Word).extractLsb' 16 16 ≠ 0 :=
  ⟨rfl, by decide, by decide, by decide, by decide⟩

theorem witness_StepRunsDecoded :
    decode (.command 0) = .ok .nop ∧ decode (.bus ⟨false, 2, 4, 0⟩) = .error .badAccess ∧
    decodeTableWord 24 0 = some .rdId ∧ State.reset.inbox = [] ∧
    ({ State.reset with inbox := [.hardReset, .sequencer] } : State).inbox = .hardReset :: [.sequencer] :=
  ⟨by decide, by decide, by decide, rfl, rfl⟩

theorem witness_IdleKeepsEverything : State.reset.run = none ∧ State.reset.inbox = [] := ⟨rfl, rfl⟩

theorem witness_RunIsWriteThenSequencer :
    (Instr.spaProduce 65535).wellFormed = true ∧ commandWord (.spaProduce 65535) = some 0xFFFF0011#32 := by decide

theorem witness_AcceptedCommandCompletes :
    Legal busyNop ∧ busyNop.run = some ⟨0, ⟨Params.reset, 0⟩, Cfg.reset, false⟩ ∧ busyNop.inbox = [] :=
  ⟨legal_busyNop, rfl, rfl⟩

theorem witness_LegalKept : Legal busyNop ∧ ∃ t, step busyNop = .next t ∧ t ≠ busyNop :=
  ⟨legal_busyNop, _, rfl, fun h => absurd (congrArg (fun u : State => u.run.map Running.worked) h) (by decide)⟩

theorem witness_LegalStepsAreSafe : Legal busyNop := legal_busyNop

theorem witness_CommandWriteDecides :
    busyNop.run.isSome = true ∧ decodeCommand 0x00000140#32 = .error .badCmd ∧
    decodeCommand 0x00000001#32 = .ok .prepare ∧ cfgOk State.reset.cfg = false ∧
    decodeCommand 0x02010060#32 = .ok (.chainProcess 513) ∧ ready.prep.maxblock.toNat = 512 ∧
    decodeCommand 0x02000060#32 = .ok (.chainProcess 512) ∧ decodeCommand 0x00000060#32 = .ok (.chainProcess 0) ∧
    ready.prepared = true ∧ State.reset.prepared = false ∧ ready.run = none := by decide

theorem witness_RefusedCommands :
    commandWord (.wsProcess 0) = some 0x00000041#32 ∧ commandWord (.wsProcess 513) = some 0x02010041#32 ∧
    ready.prep.maxblock.toNat = 512 ∧ ready.prepared = true ∧ ready.run = none ∧
    State.reset.prepared = false ∧ cfgOk State.reset.cfg = false ∧ busyNop.run.isSome = true := by decide

theorem witness_RefusedAccesses :
    (pend State.reset ⟨true, 0x10001#18, 1, 0⟩).inbox = [.access (.bus ⟨true, 0x10001#18, 1, 0⟩)] ∧
    (0x10001#18 : BitVec 18).extractLsb' 0 2 ≠ 0 ∧ (0x002FC#18 : BitVec 18).extractLsb' 0 2 = 0 ∧
    (MaskTable.find MaskTable.bus (BitVec.ofBool false ++ 0x002FC#18) 0).isNone = true :=
  ⟨rfl, by decide, by decide, by decide⟩

theorem witness_ControlReads :
    (pend busyNop ⟨true, 0x00000#18, 4, 5⟩).inbox = [.access (.bus ⟨true, 0x00000#18, 4, 5⟩)] ∧
    (pend busyNop ⟨true, 0x00048#18, 4, 5⟩).inbox = [.access (.bus ⟨true, 0x00048#18, 4, 5⟩)] := ⟨rfl, rfl⟩

theorem witness_BusyRamRefused : busyNop.run = some ⟨0, ⟨Params.reset, 0⟩, Cfg.reset, false⟩ := rfl

/-- A NOP, a STATUS write with bit 2, and a reset, each with an error latched. -/
theorem witness_ErrorsClearedOnlyByHost :
    (raise .badCmd 1 State.reset).err = true ∧
    got (step { raise .badCmd 1 State.reset with inbox := [.access (.command 0)] }) (·.err) = some true ∧
    got (step { raise .badCmd 1 State.reset with inbox := [.access (.bus ⟨true, 0x0000C#18, 4, 4⟩)] }) (·.err) =
      some false ∧
    got (step { raise .badCmd 1 State.reset with inbox := [.hardReset] }) (·.err) = some false := by decide

theorem witness_PreparedChanges :
    got (step { ready with inbox := [.hardReset] }) (·.prepared) = some false ∧
    got (step { State.reset with cfg := ⟨0x473B8000#32, 512, 2⟩, inbox := [.access (.command 1)] }) (·.prepared) =
      some true ∧
    got (step { State.reset with
      run := some ⟨1, ⟨Params.reset, 0⟩, ⟨0x473B8000#32, 512, 2⟩, false⟩ }) (·.prepared) = some true := by decide

theorem witness_HardwareReset : ({ busyNop with inbox := [.hardReset] } : State).inbox = .hardReset :: [] := rfl

theorem witness_NopEffect :
    State.reset.run = none ∧ (0x00000100#32 : Word).extractLsb' 0 8 = 0 ∧ (0x00000100#32 : Word) ≠ 0 := by decide

/-- A PREPARE that is accepted, at the ends of what is legal. -/
theorem witness_PrepareEffect :
    ({ State.reset with cfg := ⟨0x00000001#32, 4096, 2⟩ } : State).run = none ∧
    cfgOk ({ State.reset with cfg := ⟨0x00000001#32, 4096, 2⟩ } : State).cfg = true ∧
    ∃ t, exec .prepare { State.reset with cfg := ⟨0x00000001#32, 4096, 2⟩ } = .next t :=
  ⟨rfl, by decide, _, rfl⟩

theorem witness_PrepareTwice :
    ({ State.reset with cfg := ⟨0x473B8000#32, 1, 1⟩ } : State).run = none ∧
    cfgOk ({ State.reset with cfg := ⟨0x473B8000#32, 1, 1⟩ } : State).cfg = true ∧
    ∃ t, exec .prepare { State.reset with cfg := ⟨0x473B8000#32, 1, 1⟩ } = .next t :=
  ⟨rfl, by decide, _, rfl⟩

theorem witness_ResetAllEffect : ready.run = none ∧ State.reset.run = none := ⟨rfl, rfl⟩

theorem witness_UnitResets : ready.run = none ∧ State.reset.run = none := ⟨rfl, rfl⟩

theorem witness_FloatParameterWrites :
    Fp.isNaN 0x7F800001#32 = true ∧ Fp.isNaN 0x7F800000#32 = false ∧ Fp.isNaN 0xFF800000#32 = false := by decide

/-- Crossed bounds; below, above, and on the bounds. -/
theorem witness_ClampRule :
    Fp.lt Fp.one Fp.two = true ∧ Fp.clamp Fp.one Fp.two Fp.one = Fp.one ∧
    Fp.lt 0x7F800000#32 Fp.two = false ∧ Fp.lt Fp.two 0x7F800000#32 = true ∧
    Fp.clamp 0x80000000#32 Fp.zero Fp.one = 0x80000000#32 ∧ Fp.clamp 0xFF800000#32 Fp.zero Fp.one = Fp.zero := by
  decide

theorem witness_WritesDoNotReachRunningCommand :
    busyNop.run = some ⟨0, ⟨Params.reset, 0⟩, Cfg.reset, false⟩ := rfl

theorem witness_CommandsKeepHostRegisters :
    (commandWord .nop).isSome = true ∧ commandCheck .nop State.reset = none ∧ State.reset.run = none ∧
    ∃ t, exec .nop State.reset = .next t := ⟨rfl, rfl, rfl, _, rfl⟩

theorem witness_MonitorReads : State.reset.run = none ∧ State.reset.par.eqCurve = 0 := ⟨rfl, rfl⟩

theorem witness_MonitorReadsBusy :
    busyNop.run = some ⟨0, ⟨Params.reset, 0⟩, Cfg.reset, false⟩ ∧ (7 : Nat) < 8 ∧
    Instr.rdSpaCount ∈ [Instr.rdLmCompDb, .rdLmInLoud, .rdLmOutLoud, .rdLmTarget, .rdLmGainLin, .rdSpaWpos,
      .rdSpaCount] := ⟨rfl, by decide, by decide⟩

theorem witness_WindowReadsIdle : ready.run = none ∧ 1023 < 1024 ∧ 1 < 2 ∧ 4095 < 4096 := ⟨rfl, by decide⟩

theorem witness_SampleWriteIdle : ready.run = none ∧ 1 < 2 ∧ 4095 < 4096 := ⟨rfl, by decide⟩

theorem witness_ReadsChangeNothing :
    encode .rdStatus = .bus ⟨false, 0x0000C#18, 4, 0⟩ ∧ (∃ u, exec .rdStatus ready = .next u) ∧
    encode (.rdSpec 1023) = .bus ⟨false, 0x08FFC#18, 4, 0⟩ ∧ ∃ u, exec (.rdSpec 1023) busyNop = .next u :=
  ⟨by decide, ⟨_, rfl⟩, by decide, _, rfl⟩

theorem witness_BlockFrame :
    Ready 4 (one 0) ∧ blockLength (.firProcess 1 4) = some 4 ∧
    (∃ t, exec (.spaProduce 1) (one 0) = .next t) ∧ (∃ t, exec (.firProcess 1 1) (one 0) = .next t) ∧
    (∃ t, exec (.peqProcess 1) (one 0) = .next t) ∧ (∃ t, exec (.wsProcess 1) (one 0) = .next t) ∧
    (∃ t, exec (.lmAnalyzeIn 1) (one 0) = .next t) ∧ ∃ t, exec (.lmApply 1) (one 0) = .next t :=
  ⟨(ready_one 0).2, rfl, ⟨_, rfl⟩, ⟨_, rfl⟩, ⟨_, rfl⟩, ⟨_, rfl⟩, ⟨_, rfl⟩, _, rfl⟩

/-- The state of an infinite sample with the equaliser on and the high-cut filter running. -/
def infinite : State :=
  { one 0x7F800000#32 with par := { Params.reset with eqEn := 1, filterEn := 1, highcutHz := 0x463B8000#32 } }

/-- One state meets the hypotheses of all three clauses on samples; an infinite `ARG` those of the last. -/
theorem witness_NonFiniteSamples :
    Ready 1 infinite ∧ ¬ FiniteBlock 1 infinite ∧ infinite.par.eqEn ≠ 0 ∧ infinite.par.filterEn ≠ 0 ∧
    (lowBypass infinite.par infinite.prep.fs && highBypass infinite.par) = false ∧
    ({ one 0 with arg := 0x7F800000#32 } : State).run = none ∧
    ({ one 0 with arg := 0x7F800000#32 } : State).prepared = true ∧
    Fp.isFinite ({ one 0 with arg := 0x7F800000#32 } : State).arg = false :=
  ⟨⟨rfl, rfl, by decide, by decide, by decide⟩, infinite_one, by decide, by decide, by decide +kernel, rfl, rfl,
    by decide⟩

theorem witness_WsProcessEffect : Ready 1 (one 0) ∧ FiniteBlock 1 (one 0) := ⟨(ready_one 0).1, finite_one⟩

theorem witness_WsSampleRule : ∃ ch y, wsSample (wsSetup Params.reset WsState.reset) WsChan.zero 0 = (ch, y) :=
  ⟨_, _, rfl⟩

theorem witness_WsCurveEffect :
    (one 0).run = none ∧ (one 0).prepared = true ∧ Fp.isFinite (one 0).arg = true := ⟨rfl, rfl, by decide⟩

/-- One sample with the position at the buffer's end: the clause of the last wrap with `m = 1`. -/
theorem witness_SpaProduceEffect :
    Ready 1 { one 0 with spa := { SpaState.reset with wpos := 2047 } } ∧
    FiniteBlock 1 { one 0 with spa := { SpaState.reset with wpos := 2047 } } ∧ ((2047#11).toNat + 1) % 2048 = 0 :=
  ⟨⟨rfl, rfl, by decide, by decide, by decide⟩, finite_one, by decide⟩

theorem witness_PeqProcessEffect :
    Ready 1 { one 0 with par := { Params.reset with eqEn := 1 } } ∧
    FiniteBlock 1 { one 0 with par := { Params.reset with eqEn := 1 } } ∧ (1 : Word) ≠ 0 :=
  ⟨⟨rfl, rfl, by decide, by decide, by decide⟩, finite_one, by decide⟩

theorem witness_BinsInRange :
    cfgOk ({ State.reset with cfg := ⟨0x00000001#32, 1, 1⟩ } : State).cfg = true ∧ 7 < 8 ∧
    ∃ t, exec .prepare { State.reset with cfg := ⟨0x00000001#32, 1, 1⟩ } = .next t :=
  ⟨by decide, by decide, _, rfl⟩

theorem witness_UnitsSwitchedOff :
    Ready 1 (one 0) ∧ (one 0).par.eqEn = 0 ∧ (one 0).par.filterEn = 0 ∧
    lowBypass (one 0).par (one 0).prep.fs = true ∧ highBypass (one 0).par = true :=
  ⟨(ready_one 0).1, rfl, rfl, by decide +kernel, by decide +kernel⟩

theorem witness_FirProcessEffect :
    Ready 1 { one 0 with par := { Params.reset with filterEn := 1, highcutHz := 0x463B8000#32 } } ∧
    FiniteBlock 1 { one 0 with par := { Params.reset with filterEn := 1, highcutHz := 0x463B8000#32 } } ∧
    (1 : Nat) < 2 ∧ (1 : Word) ≠ 0 ∧
    (lowBypass { Params.reset with highcutHz := 0x463B8000#32 } 0x473B8000#32 &&
      highBypass { Params.reset with highcutHz := 0x463B8000#32 }) = false :=
  ⟨⟨rfl, rfl, by decide, by decide, by decide⟩, finite_one, by decide, by decide, by decide +kernel⟩

theorem witness_MeasureRule : chans ready ≤ 2 := by decide

theorem witness_LmAnalyzeInEffect : Ready 1 (one 0) ∧ FiniteBlock 1 (one 0) := ⟨(ready_one 0).1, finite_one⟩

theorem witness_LmAnalyzeOutEffect : Ready 1 (one 0) ∧ FiniteBlock 1 (one 0) := ⟨(ready_one 0).1, finite_one⟩

theorem witness_LmApplyEffect : Ready 1 (one 0) ∧ FiniteBlock 1 (one 0) := ⟨(ready_one 0).1, finite_one⟩

/-- One silent sample through the whole chain: no step reads a non-finite sample. -/
theorem witness_ChainProcessEffect :
    Ready 1 (one 0) ∧
    (chainSteps (one 0).par 1 { one 0 with
      run := some ⟨cmdWord 0x60 0 1, ⟨(one 0).par, (one 0).arg⟩, (one 0).cfg, false⟩
      done := false, nonf := false }).nonf = false :=
  ⟨(ready_one 0).1, by decide +kernel⟩

/-- The last band and the centre tap and the last one. -/
theorem witness_DesignsWrittenOut : 7 < 8 ∧ 255 < 511 ∧ 510 < 511 := by decide

theorem witness_GainAtZeroDb : Ready 1 (one 0) ∧ FiniteBlock 1 (one 0) := ⟨(ready_one 0).1, finite_one⟩

end Sys2Proof.Tests
end

section
/-!
PROOFS. The clamp (R11) and the tables and designs PREPARE derives, written out (R17, R102, R117, R130, R138 to R140,
R148, R149).
-/

namespace Sys2Proof.Machine

open Sys2Proof.Safety

/-! ## The clamp -/

/-- A NaN is below nothing. -/
theorem Fp.lt_nan_left {a : F32} (b : F32) (h : Fp.isNaN a = true) : Fp.lt a b = false := by simp [Fp.lt, h]

/-- Nothing is below a NaN. -/
theorem Fp.lt_nan_right (a : F32) {b : F32} (h : Fp.isNaN b = true) : Fp.lt a b = false := by simp [Fp.lt, h]

/-- Numbers are totally ordered. -/
theorem Fp.lt_false_iff {a b : F32} (ha : Fp.isNaN a = false) (hb : Fp.isNaN b = false) :
    Fp.lt a b = false ↔ Fp.le b a = true := by
  simp [Fp.lt, Fp.le, ha, hb]

theorem Fp.le_self {a : F32} (h : Fp.isNaN a = false) : Fp.le a a = true := by simp [Fp.le, h]

theorem Fp.lt_of_lt_of_le {a b c : F32} (h : Fp.lt a b = true) (g : Fp.le b c = true) : Fp.lt a c = true := by
  rw [Fp.lt_iff] at *
  rw [Fp.le_iff] at g
  exact ⟨h.1, g.2.1, by omega⟩

/-- The clamp as the comparisons it makes: against `lo` first, and what is left against `hi` (R11). -/
theorem Fp.clamp_eq (x lo hi : F32) : Fp.clamp x lo hi =
    if Fp.lt x lo then (if Fp.lt hi lo then hi else lo) else if Fp.lt hi x then hi else x := by
  unfold Fp.clamp Fp.max Fp.gt
  split <;> rfl

theorem Fp.clamp_nan {x : F32} (lo hi : F32) (h : Fp.isNaN x = true) : Fp.clamp x lo hi = x := by
  simp [Fp.clamp_eq, Fp.lt_nan_left lo h, Fp.lt_nan_right hi h]

/-- Crossed bounds: a number not below `lo` lies above `hi`. -/
theorem Fp.clamp_crossed {x lo hi : F32} (hx : Fp.isNaN x = false) (hlo : Fp.isNaN lo = false)
    (h : Fp.lt hi lo = true) : Fp.clamp x lo hi = hi := by
  rw [Fp.clamp_eq]
  cases hb : Fp.lt x lo with
  | true => simp [h]
  | false => simp [Fp.lt_of_lt_of_le h ((Fp.lt_false_iff hx hlo).1 hb)]

theorem Fp.clamp_below {x lo hi : F32} (h : Fp.lt hi lo = false) (hx : Fp.lt x lo = true) :
    Fp.clamp x lo hi = lo := by
  simp [Fp.clamp_eq, h, hx]

/-- Above `hi` and bounds that do not cross: the number is not below `lo`. -/
theorem Fp.clamp_above {x lo hi : F32} (hn : Fp.isNaN lo = false) (h : Fp.lt hi lo = false)
    (hx : Fp.lt hi x = true) : Fp.clamp x lo hi = hi := by
  obtain ⟨nhi, nx, -⟩ := Fp.lt_iff.1 hx
  have above : Fp.lt x lo = false := by
    rw [Fp.lt_false_iff nhi hn, Fp.le_iff] at h
    rw [Fp.lt_false_iff nx hn, Fp.le_iff]
    rw [Fp.lt_iff] at hx
    exact ⟨hn, nx, by omega⟩
  simp [Fp.clamp_eq, above, hx]

theorem Fp.clamp_inside {x lo hi : F32} (h : Fp.lt x lo = false) (g : Fp.lt hi x = false) :
    Fp.clamp x lo hi = x := by
  simp [Fp.clamp_eq, h, g]

/-- Between bounds that do not cross the clamp lies within them. -/
theorem Fp.clamp_inRange {x lo hi : F32} (nx : Fp.isNaN x = false) (nlo : Fp.isNaN lo = false)
    (nhi : Fp.isNaN hi = false) (h : Fp.lt hi lo = false) : inRange lo hi (Fp.clamp x lo hi) = true := by
  have lohi : Fp.le lo hi = true := (Fp.lt_false_iff nhi nlo).1 h
  unfold inRange
  cases hb : Fp.lt x lo with
  | true => simp [Fp.clamp_below h hb, lohi, Fp.le_self nlo]
  | false =>
    cases ha : Fp.lt hi x with
    | true => simp [Fp.clamp_above nlo h ha, lohi, Fp.le_self nhi]
    | false => simp [Fp.clamp_inside hb ha, (Fp.lt_false_iff nx nlo).1 hb, (Fp.lt_false_iff nhi nx).1 ha]

/-- Settles O31: the four cases of `Fp.clamp_eq`. -/
theorem clampRule : Obligations.ClampRule := by
  intro x lo hi
  exact ⟨Fp.clamp_nan lo hi, fun nx nlo nhi => ⟨Fp.clamp_crossed nx nlo, fun h =>
    ⟨Fp.clamp_below h, Fp.clamp_above nlo h, Fp.clamp_inside, Fp.clamp_inRange nx nlo nhi h⟩⟩⟩

/-! ## Tables and designs -/

/-- The spectrum length as the pattern `int2f` makes of it (R13). -/
theorem Fp.ofInt_2048 : Fp.ofInt (2048 : Int) = 0x45000000#32 := by decide +kernel

/-- The bin count as a pattern. -/
theorem Fp.ofInt_1024 : Fp.ofInt (1024 : Int) = 0x44800000#32 := by decide +kernel

/-- The highest bin as a pattern. -/
theorem Fp.ofInt_1023 : Fp.ofInt (1023 : Int) = 0x447FC000#32 := by decide +kernel

theorem binFreq_eq (fs : F32) (k : Nat) : binFreq fs k = Fp.div (Fp.mul (Fp.ofInt k) fs) 0x45000000#32 := by
  rw [← Fp.ofInt_2048]; rfl

theorem bandBin_eq (fs : F32) (b : Nat) : bandBin fs b =
    BitVec.ofInt 11 (Fp.floor (Fp.clamp
      (Fp.add (Fp.mul (Fp.div (bandHz b) (Fp.div fs 0x40000000#32)) 0x44800000#32) 0x3F000000#32)
      0x3F800000#32 0x447FC000#32)) := by
  rw [← Fp.ofInt_1024, ← Fp.ofInt_1023]; rfl

/-- A low-pass tap is the windowed tap over the sum of all 511, tap 0 first (R139). -/
theorem vget_lowPass (fc fs : F32) {i : Nat} (h : i < 511) : vget (lowPass fc fs) i 0 =
    Fp.div (sincTap (Fp.div fc fs) i)
      ((List.range 510).foldl (fun acc j => Fp.add acc (sincTap (Fp.div fc fs) (j + 1)))
        (sincTap (Fp.div fc fs) 0)) := by
  have total := sum_tab 510 (sincTap (Fp.div fc fs))
  have tap := vget_tab (n := 511) (sincTap (Fp.div fc fs)) 0 h
  rw [vget_lt _ _ h] at tap
  rw [← total, ← tap]
  exact vget_vmap _ _ _ h

/-- A high-pass tap is the low-pass tap negated, the centre tap 1 minus it (R140). -/
theorem vget_highPass (fc fs : F32) {i : Nat} (h : i < 511) : vget (highPass fc fs) i 0 =
    if i = 255 then Fp.sub 0x3F800000#32 (vget (lowPass fc fs) 255 0) else Fp.neg (vget (lowPass fc fs) i 0) := by
  unfold highPass
  split
  · subst i; exact vget_vset_same _ _ _ h
  · rename_i centre
    rw [vget_vset_other _ _ _ centre, vget_lt (lowPass fc fs) 0 h]
    exact vget_vmap _ _ _ h

/-- Settles O60: the kernels by their taps, the rest by unfolding, with the integer constants evaluated. -/
theorem designsWrittenOut : Obligations.DesignsWrittenOut := by
  refine ⟨fun _ => rfl, binFreq_eq, fun fs b _ => bandBin_eq fs b, fun _ => rfl,
    fun fc fs => ?_, fun _ _ _ _ _ _ => rfl, fun _ _ _ => rfl, fun _ _ _ _ => rfl, fun _ _ => rfl⟩
  exact fun i hi => ⟨vget_lowPass fc fs hi, vget_highPass fc fs hi⟩

end Sys2Proof.Machine
end

section
/-!
PROOFS. Block commands (R49, R74, R137): a ready one is carried out, and what each rule leaves unchanged, whether or
not it read a non-finite sample.
-/

namespace Sys2Proof.Machine

open Sys2Proof.Safety

/-! ## A ready block command is carried out -/

/-- A block command has a word, and its check is the block check (R60, R74). -/
theorem blockLength_command {i : Instr} {ns : Nat} (h : blockLength i = some ns) :
    (∃ w, commandWord i = some w) ∧ ∀ s, commandCheck i s = checkBlock ns s := by
  cases i <;> cases h <;> exact ⟨⟨_, rfl⟩, fun _ => rfl⟩

/-- Ready, a block command's rule is performed and the command completes (R74, R75). -/
theorem exec_ready {i : Instr} {ns : Nat} {w : Word} {s u : State} (hr : Ready ns s) (hi : blockLength i = some ns)
    (hw : commandWord i = some w) (hb : commandBody i (running w s) (accept w s) = .next u) :
    exec i s = .next (complete u) := by
  rw [exec_command hw, (blockLength_command hi).2, ready_check hr]
  exact issue_accepted hr.idle hb

/-- Ready, a block command answers one next state, the completion of its rule. -/
theorem exec_ready_exists {i : Instr} {ns : Nat} {s : State} (hr : Ready ns s) (hi : blockLength i = some ns) :
    ∃ w u, commandBody i (running w s) (accept w s) = .next u ∧ exec i s = .next (complete u) := by
  obtain ⟨w, hw⟩ := (blockLength_command hi).1
  obtain ⟨u, hu⟩ := commandBody_next (i := i) (r := running w s) (s := accept w s)
    (fun n hn => by cases hi.symm.trans hn; simpa using ready_mapped hr)
  exact ⟨w, u, hu, exec_ready hr hi hw hu⟩

/-- The rule behind the answer of a ready block command. -/
theorem exec_ready_inv {i : Instr} {ns : Nat} {s t : State} (hr : Ready ns s) (hi : blockLength i = some ns)
    (h : exec i s = .next t) : ∃ w u, commandBody i (running w s) (accept w s) = .next u ∧ t = complete u := by
  obtain ⟨w, u, hu, he⟩ := exec_ready_exists hr hi
  exact ⟨w, u, hu, Host.Outcome.next.inj (h.symm.trans he)⟩

/-! ## What every block command leaves alone -/

/-- A field that neither the count of draws nor the choice of free values touches, settling keeps. -/
theorem settle_field {β : Type} (g : State → β) {f : Nat → State → State → State} {s t : State}
    (draws : ∀ u n, g { u with draws := n } = g u) (free : ∀ d, g (f d s t) = g t) :
    g (settle f s t) = g t := by
  unfold settle
  split
  · rw [draws, free]
  · rfl

/-- `RESULT` is WS_CURVE's alone (R84): no block command's rule touches it. -/
theorem commandBody_result {i : Instr} {ns : Nat} {r : Running} {s t : State} (hi : blockLength i = some ns)
    (h : commandBody i r s = .next t) : t.result = s.result := by
  cases i <;> cases hi <;> obtain ⟨rfl, -, -⟩ := onSamples_cases h <;>
    exact (settle_field State.result (fun _ _ => rfl) (by simp)).trans (by simp)

/-- Ready, a block command completes, keeps control, configuration and `RESULT`, and stores into its block only. -/
theorem block_completes {i : Instr} {ns : Nat} {s : State} (hr : Ready ns s) (hi : blockLength i = some ns) :
    ∃ t, exec i s = .next t ∧ Completed t ∧ SameControl s t ∧ SamePrep s t ∧ t.result = s.result ∧
      SameOutside ns s t := by
  obtain ⟨w, u, hu, he⟩ := exec_ready_exists hr hi
  obtain ⟨-, herr, -, hpnan, hcode, hovf, hinfo, hirq, harg, hcfg, hpar, -, hrdata, hinbox⟩ := commandBody_frame hu
  obtain ⟨hprep, hprepared⟩ := commandBody_prep hu (by rintro rfl; cases hi)
  have stores := (commandBody_stores hu).outside
  rw [hi] at stores
  exact ⟨complete u, he, ⟨rfl, rfl⟩,
    ⟨herr, hcode, hovf, hinfo, hpnan, hirq, harg, hcfg, hpar, hrdata, hinbox⟩,
    ⟨hprep, hprepared⟩, (commandBody_result hi hu : u.result = _), stores⟩

/-! ## The units each rule leaves alone -/

theorem commandBody_spaProduce_units {ns : Nat} {r : Running} {s t : State}
    (h : commandBody (.spaProduce ns) r s = .next t) :
    t.ws = s.ws ∧ t.peq = s.peq ∧ t.fir = s.fir ∧ t.lm = s.lm ∧ t.mem = s.mem := by
  obtain ⟨rfl, -, -⟩ := onSamples_cases h
  unfold settle
  split <;> simp

theorem commandBody_peqProcess_units {ns : Nat} {r : Running} {s t : State}
    (h : commandBody (.peqProcess ns) r s = .next t) :
    t.ws = s.ws ∧ t.fir = s.fir ∧ t.lm = s.lm := by
  obtain ⟨rfl, -, -⟩ := onSamples_cases h
  unfold settle
  split <;> simp

theorem commandBody_wsProcess_units {ns : Nat} {r : Running} {s t : State}
    (h : commandBody (.wsProcess ns) r s = .next t) :
    t.peq = s.peq ∧ t.spa = s.spa ∧ t.fir = s.fir ∧ t.lm = s.lm ∧ t.specNew = s.specNew := by
  obtain ⟨rfl, -, -⟩ := onSamples_cases h
  unfold settle
  split <;> simp

theorem commandBody_lmAnalyzeIn_units {ns : Nat} {r : Running} {s t : State}
    (h : commandBody (.lmAnalyzeIn ns) r s = .next t) :
    t.ws = s.ws ∧ t.peq = s.peq ∧ t.spa = s.spa ∧ t.fir = s.fir ∧ t.specNew = s.specNew ∧ t.mem = s.mem := by
  obtain ⟨rfl, -, -⟩ := onSamples_cases h
  unfold settle
  split <;> simp

theorem commandBody_lmAnalyzeOut_units {ns : Nat} {r : Running} {s t : State}
    (h : commandBody (.lmAnalyzeOut ns) r s = .next t) :
    t.ws = s.ws ∧ t.peq = s.peq ∧ t.spa = s.spa ∧ t.fir = s.fir ∧ t.specNew = s.specNew ∧ t.mem = s.mem := by
  obtain ⟨rfl, -, -⟩ := onSamples_cases h
  unfold settle
  split <;> simp

theorem commandBody_lmApply_units {ns : Nat} {r : Running} {s t : State}
    (h : commandBody (.lmApply ns) r s = .next t) :
    t.ws = s.ws ∧ t.peq = s.peq ∧ t.spa = s.spa ∧ t.fir = s.fir ∧ t.specNew = s.specNew := by
  obtain ⟨rfl, -, -⟩ := onSamples_cases h
  unfold settle
  split <;> simp

/-! ## The filter pair FIR_PROCESS does not name -/

theorem firInst_congr {s t : State} (h : t.fir = s.fir) (j : Nat) : firInst t j = firInst s j := by
  simp [firInst, h]

/-- Replacing one filter pair leaves the other alone. -/
theorem firInst_vset_other {s t : State} {inst j : Nat} {x : FirInst} (h : t.fir = vset s.fir inst x)
    (hj : j ≠ inst) : firInst t j = firInst s j := by
  unfold firInst
  rw [h, vget_vset_other _ _ _ hj]

theorem firChannel_otherInst (lcBy hcBy : Bool) (ns c : Nat) (s : State) {inst j : Nat} (hj : j ≠ inst) :
    firInst (firChannel lcBy hcBy ns inst c s) j = firInst s j :=
  firInst_vset_other rfl hj

theorem firProcess_otherInst (par : Params) (ns : Nat) (s : State) {inst j : Nat} (hj : j ≠ inst) :
    firInst (firProcess par ns inst s) j = firInst s j := by
  have redesigned (x : FirInst) : firInst { s with fir := vset s.fir inst x } j = firInst s j :=
    firInst_vset_other rfl hj
  unfold firProcess
  dsimp only
  split
  · rfl
  · split
    · exact redesigned _
    · exact (each_field (g := fun t => firInst t j) (fun c t => firChannel_otherInst _ _ _ c t hj) _).trans
        (redesigned _)

theorem freeFir_otherInst (par : Params) (d : Nat) (s t : State) {inst j : Nat} (hj : j ≠ inst) :
    firInst (freeFir par inst d s t) j = firInst t j := by
  unfold freeFir
  split
  · rfl
  · exact firInst_vset_other rfl hj

theorem commandBody_firProcess_units {inst ns : Nat} {r : Running} {s t : State}
    (h : commandBody (.firProcess inst ns) r s = .next t) :
    t.ws = s.ws ∧ t.peq = s.peq ∧ t.spa = s.spa ∧ t.lm = s.lm ∧ t.specNew = s.specNew := by
  obtain ⟨rfl, -, -⟩ := onSamples_cases h
  unfold settle
  split <;> simp

theorem commandBody_firProcess_otherInst {inst ns j : Nat} {r : Running} {s t : State}
    (h : commandBody (.firProcess inst ns) r s = .next t) (hj : j ≠ inst) : firInst t j = firInst s j := by
  obtain ⟨rfl, -, -⟩ := onSamples_cases h
  refine (settle_field (fun u => firInst u j) ?draws ?free).trans (firProcess_otherInst _ ns s hj)
  case draws => exact fun u _ => firInst_congr (s := u) rfl j
  case free => exact fun d => (firInst_congr (by simp) j).trans (freeFir_otherInst r.snap.par d s _ hj)

/-- Settles O41: every answer is the completion of the command's rule, and acceptance and completion touch no unit. -/
theorem blockFrame : Obligations.BlockFrame := by
  intro ns s hr
  refine ⟨fun i hi => block_completes hr hi, fun t => ⟨?spa, ?fir, ?peq, ?ws, ?analyze, ?apply⟩⟩
  case spa =>
    intro h
    obtain ⟨w, u, hu, rfl⟩ := exec_ready_inv hr rfl h
    simpa using commandBody_spaProduce_units hu
  case fir =>
    intro inst h
    obtain ⟨w, u, hu, rfl⟩ := exec_ready_inv hr rfl h
    obtain ⟨hws, hpeq, hspa, hlm, hnew⟩ := commandBody_firProcess_units hu
    have other (j : Nat) (hj : j ≠ inst) : firInst u j = firInst (accept w s) j :=
      commandBody_firProcess_otherInst hu hj
    exact ⟨hws, hpeq, hspa, hlm, hnew, other⟩
  case peq =>
    intro h
    obtain ⟨w, u, hu, rfl⟩ := exec_ready_inv hr rfl h
    simpa using commandBody_peqProcess_units hu
  case ws =>
    intro h
    obtain ⟨w, u, hu, rfl⟩ := exec_ready_inv hr rfl h
    simpa using commandBody_wsProcess_units hu
  case analyze =>
    rintro (h | h) <;> obtain ⟨w, u, hu, rfl⟩ := exec_ready_inv hr rfl h
    · simpa using commandBody_lmAnalyzeIn_units hu
    · simpa using commandBody_lmAnalyzeOut_units hu
  case apply =>
    intro h
    obtain ⟨w, u, hu, rfl⟩ := exec_ready_inv hr rfl h
    simpa using commandBody_lmApply_units hu

end Sys2Proof.Machine
end

section
/-!
PROOFS. PEQ_PROCESS enabled, on a finite block (R17, R119, R126): a loop over tables whose pass `i` touches entry `i`
alone, the band chain and the channel loop as two such loops, and what `NONF` holds after reading finite samples.
-/

namespace Sys2Proof.Machine

open Sys2Proof.Safety

/-! ## Loops whose passes touch one entry each -/

/-- What holds before the first pass and every pass carries on, holds after the last. -/
theorem each_induct {σ : Type} {n : Nat} {f : Nat → σ → σ} {p : Nat → σ → Prop} {s : σ} (start : p 0 s)
    (pass : ∀ i t, i < n → p i t → p (i + 1) (f i t)) : p n (each n f s) := by
  induction n with
  | zero => exact start
  | succ n ih =>
    rw [each_succ]
    exact pass n _ (Nat.lt_succ_self n) (ih fun i t hi => pass i t (Nat.lt_succ_of_lt hi))

/-- A value that only pass `c` changes: as before where pass `c` is not among the first `n`. -/
theorem each_before {σ β : Type} {n c : Nat} {f : Nat → σ → σ} {g : σ → β} (other : ∀ i s, i ≠ c → g (f i s) = g s)
    (h : n ≤ c) (s : σ) : g (each n f s) = g s :=
  each_keeps (p := fun t => g t = g s) (fun i t hi ht => (other i t (by omega)).trans ht) rfl

/-- A value that only pass `c` changes: what pass `c` made of it, where it is among the first `n`. -/
theorem each_after {σ β : Type} {n c : Nat} {f : Nat → σ → σ} {g : σ → β} (other : ∀ i s, i ≠ c → g (f i s) = g s)
    (h : c < n) (s : σ) : g (each n f s) = g (f c (each c f s)) := by
  induction n with
  | zero => exact absurd h (Nat.not_lt_zero c)
  | succ n ih =>
    rw [each_succ]
    rcases Nat.lt_succ_iff_lt_or_eq.1 h with hlt | rfl
    · rw [other n _ (by omega), ih hlt]
    · rfl

/-! ## The band chain -/

/-- One pass of `bandChain`: the sample through the biquad of band `b` (R126). -/
def bandPass (band : Vector EqBand Config.numBands) (b : Nat) (p : Vector BqState Config.numBands × F32) :
    Vector BqState Config.numBands × F32 :=
  (vset p.1 b (bq (vget band b EqBand.reset).coef (vget p.1 b BqState.zero) p.2).2,
    (bq (vget band b EqBand.reset).coef (vget p.1 b BqState.zero) p.2).1)

theorem bandChain_eq (band : Vector EqBand Config.numBands) (st : Vector BqState Config.numBands) (x : F32) :
    bandChain band st x = each 8 (bandPass band) (st, x) := rfl

/-- A pass is one biquad step on the value and the band's own state. -/
theorem bandPass_biquad (band : Vector EqBand Config.numBands) (p : Vector BqState Config.numBands × F32) {b : Nat}
    (hb : b < 8) : ((bandPass band b p).2, vget (bandPass band b p).1 b BqState.zero) =
      bq (vget band b EqBand.reset).coef (vget p.1 b BqState.zero) p.2 :=
  Prod.ext rfl (vget_vset_same _ _ _ hb)

theorem bandPass_otherState (band : Vector EqBand Config.numBands) (p : Vector BqState Config.numBands × F32)
    {b c : Nat} (h : c ≠ b) : vget (bandPass band c p).1 b BqState.zero = vget p.1 b BqState.zero :=
  vget_vset_other _ _ _ (Ne.symm h)

/-- The bands in ascending order: each takes the value the one before it gave, and its own state (R126). -/
theorem bandChain_bands (band : Vector EqBand Config.numBands) (st : Vector BqState Config.numBands) (x : F32)
    {b : Nat} (hb : b < 8) :
    ((each (b + 1) (bandPass band) (st, x)).2, vget (bandChain band st x).1 b BqState.zero) =
      bq (vget band b EqBand.reset).coef (vget st b BqState.zero) (each b (bandPass band) (st, x)).2 := by
  have other (i : Nat) (p : Vector BqState Config.numBands × F32) (hi : i ≠ b) :
      vget (bandPass band i p).1 b BqState.zero = vget p.1 b BqState.zero := bandPass_otherState band p hi
  have before : vget (each b (bandPass band) (st, x)).1 b BqState.zero = vget st b BqState.zero :=
    each_before (f := bandPass band) (g := fun p => vget p.1 b BqState.zero) other (Nat.le_refl b) (st, x)
  have after : vget (each 8 (bandPass band) (st, x)).1 b BqState.zero =
      vget (bandPass band b (each b (bandPass band) (st, x))).1 b BqState.zero :=
    each_after (f := bandPass band) (g := fun p => vget p.1 b BqState.zero) other hb (st, x)
  rw [bandChain_eq, after, each_succ, ← before]
  exact bandPass_biquad band _ hb

/-! ## `NONF` after reading finite samples (R172) -/

/-- Reading finite samples sets nothing. -/
theorem note_finite {c ns : Nat} {s t : State} (h : ∀ i, i < ns → Fp.isFinite (sampleAt t c i) = true) :
    (note (readBlock t c ns) s).nonf = s.nonf := by
  have finite : (readBlock t c ns).any (fun x => !Fp.isFinite x) = false := by simpa [readBlock] using h
  rw [note_nonf, finite, Bool.or_false]

theorem noteAll_finite {ns : Nat} {s : State} (h : FiniteBlock ns s) : (noteAll ns s).nonf = s.nonf := by
  refine (each_induct (p := fun _ (t : State) => t.mem = s.mem ∧ t.nonf = s.nonf) ⟨rfl, rfl⟩ ?_).2
  rintro c t hc ⟨hmem, hnonf⟩
  refine ⟨hmem, (note_finite fun i hi => ?_).trans hnonf⟩
  exact sampleAt_congr hmem c i ▸ h c hc i hi

theorem spaFeed_finite {ns : Nat} {s : State} (h : FiniteBlock ns s) : (spaFeed ns s).nonf = s.nonf :=
  noteAll_finite h

/-! ## One channel through the band filters (R126) -/

/-- The filter states of a channel that has none. -/
abbrev noBands : Vector BqState Config.numBands := Vector.replicate Config.numBands BqState.zero

/-- The channel's samples run through the band chain, from its filter states before to those after. -/
theorem peqChannel_runs {c : Nat} (ns : Nat) (s : State) (hc : c < Config.cMax) :
    Runs (bandChain s.peq.band) ns (sampleAt s c) (sampleAt (peqChannel ns c s) c) (vget s.peq.st c noBands)
      (vget (peqChannel ns c s).peq.st c noBands) := by
  have run := mapAccum_runs (bandChain s.peq.band) (vget s.peq.st c noBands) (readBlock s c ns)
  rw [readBlock_length] at run
  have last : vget (peqChannel ns c s).peq.st c noBands =
      (mapAccum (bandChain s.peq.band) (vget s.peq.st c noBands) (readBlock s c ns)).1 :=
    vget_vset_same _ _ _ hc
  rw [last]
  exact Runs_congr run (fun i hi => (readBlock_getD s c hi).symm)
    (fun i hi => sampleAt_writeBlock_same _ _ _ (by simpa using hi))

theorem peqChannel_otherSt (ns : Nat) {c d : Nat} (s : State) (h : c ≠ d) :
    vget (peqChannel ns c s).peq.st d noBands = vget s.peq.st d noBands :=
  vget_vset_other _ _ _ (Ne.symm h)

theorem peqChannel_otherSample {ns i : Nat} (hn : ns ≤ Config.nMax) (hi : i < ns) {c d : Nat} (s : State)
    (h : c ≠ d) : sampleAt (peqChannel ns c s) d i = sampleAt s d i :=
  sampleAt_writeBlock_other _ _ _ _ (Ne.symm h) (by rw [mapAccum_length, readBlock_length]; exact hn)
    (Nat.lt_of_lt_of_le hi hn)

theorem peqChannel_band (ns c : Nat) (s : State) : (peqChannel ns c s).peq.band = s.peq.band := rfl

/-! ## The loop over the channels -/

/-- Every channel of the loop finds its samples and its filter states as they were before the first. -/
theorem peqChannels_runs {n c ns : Nat} (s : State) (hn : ns ≤ Config.nMax) (hc : c < n) (hm : n ≤ Config.cMax) :
    Runs (bandChain s.peq.band) ns (sampleAt s c) (sampleAt (each n (peqChannel ns) s) c)
      (vget s.peq.st c noBands) (vget (each n (peqChannel ns) s).peq.st c noBands) := by
  have samples {i : Nat} (hi : i < ns) (j : Nat) (t : State) (hj : j ≠ c) :
      sampleAt (peqChannel ns j t) c i = sampleAt t c i := peqChannel_otherSample hn hi t hj
  have states (j : Nat) (t : State) (hj : j ≠ c) :
      vget (peqChannel ns j t).peq.st c noBands = vget t.peq.st c noBands := peqChannel_otherSt ns t hj
  have run := peqChannel_runs ns (each c (peqChannel ns) s) (Nat.lt_of_lt_of_le hc hm)
  rw [each_field (g := fun t => t.peq.band) (peqChannel_band ns) s,
    each_before (g := fun t => vget t.peq.st c noBands) states (Nat.le_refl c) s] at run
  rw [each_after (g := fun t => vget t.peq.st c noBands) states hc s]
  exact Runs_congr run
    (fun i hi => (each_before (g := fun t => sampleAt t c i) (samples hi) (Nat.le_refl c) s).symm)
    (fun i hi => each_after (g := fun t => sampleAt t c i) (samples hi) hc s)

/-- A channel past the loop keeps its filter states. -/
theorem peqChannels_otherSt {n c : Nat} (ns : Nat) (s : State) (hc : n ≤ c) :
    vget (each n (peqChannel ns) s).peq.st c noBands = vget s.peq.st c noBands :=
  each_before (g := fun t => vget t.peq.st c noBands) (fun _ t hj => peqChannel_otherSt ns t hj) hc s

/-- The loop over finite samples sets nothing: a channel's samples are read before they are replaced. -/
theorem peqChannels_finite {ns : Nat} {s : State} (hn : ns ≤ Config.nMax) (h : FiniteBlock ns s) :
    (each (chans s) (peqChannel ns) s).nonf = s.nonf := by
  refine (each_induct (p := fun k t =>
    (∀ c, k ≤ c → ∀ i, i < ns → sampleAt t c i = sampleAt s c i) ∧ t.nonf = s.nonf)
    ⟨fun _ _ _ _ => rfl, rfl⟩ ?_).2
  rintro k t hk ⟨hsamples, hnonf⟩
  constructor
  · intro c hc i hi
    rw [peqChannel_otherSample hn hi t (by omega), hsamples c (by omega) i hi]
  · refine (note_finite (s := { t with peq := _ }) fun i hi => ?_).trans hnonf
    rw [hsamples k (Nat.le_refl k) i hi]
    exact h k hk i hi

/-! ## The enabled equaliser -/

/-- The state between the control loop and the filters: the block fed, every band looped (R119). -/
def peqLooped (par : Params) (ns : Nat) (s : State) : State :=
  { spaFeed ns s with peq := { s.peq with
      band := mapBands (bandLoop par s.prep.fs ns (spaFeed ns s).spa.spec) s.peq.band } }

theorem peqRun_eq (par : Params) (ns : Nat) (s : State) :
    peqRun par ns s = each (chans s) (peqChannel ns) (peqLooped par ns s) := by
  simp [peqRun, peqLooped, chans]

theorem peqLooped_mem (par : Params) (ns : Nat) (s : State) : (peqLooped par ns s).mem = s.mem := by
  simp [peqLooped]

theorem peqLooped_chans (par : Params) (ns : Nat) (s : State) : chans (peqLooped par ns s) = chans s := by
  simp [peqLooped, chans]

/-- The analyser is the one the feed left (R119). -/
theorem peqRun_spa (par : Params) (ns : Nat) (s : State) :
    (peqRun par ns s).spa = (spaFeed ns s).spa ∧ (peqRun par ns s).specNew = (spaFeed ns s).specNew := by
  rw [peqRun_eq]
  exact ⟨each_field (g := State.spa) (fun c t => by simp) _, each_field (g := State.specNew) (fun c t => by simp) _⟩

theorem peqRun_bands (par : Params) (ns : Nat) (s : State) :
    (peqRun par ns s).peq.band = (peqLooped par ns s).peq.band := by
  rw [peqRun_eq]
  exact each_field (g := fun t : State => t.peq.band) (peqChannel_band ns) _

/-- Every band runs its control loop on the spectrum then left (R119). -/
theorem peqRun_band (par : Params) (ns : Nat) (s : State) {b : Nat} (hb : b < 8) :
    vget (peqRun par ns s).peq.band b EqBand.reset =
      bandLoop par s.prep.fs ns (peqRun par ns s).spa.spec b (vget s.peq.band b EqBand.reset) := by
  rw [peqRun_bands, (peqRun_spa par ns s).1]
  exact vget_tab _ _ hb

theorem peqRun_runs {c ns : Nat} (par : Params) (s : State) (hn : ns ≤ Config.nMax) (hm : chans s ≤ Config.cMax)
    (hc : c < chans s) :
    Runs (bandChain (peqRun par ns s).peq.band) ns (sampleAt s c) (sampleAt (peqRun par ns s) c)
      (vget s.peq.st c noBands) (vget (peqRun par ns s).peq.st c noBands) := by
  rw [peqRun_bands, peqRun_eq]
  exact Runs_congr (peqChannels_runs (peqLooped par ns s) hn hc hm)
    (fun i _ => (sampleAt_congr (peqLooped_mem par ns s) c i).symm) (fun _ _ => rfl)

theorem peqRun_otherSt {c : Nat} (par : Params) (ns : Nat) (s : State) (hc : chans s ≤ c) :
    vget (peqRun par ns s).peq.st c noBands = vget s.peq.st c noBands := by
  rw [peqRun_eq]
  exact peqChannels_otherSt ns (peqLooped par ns s) hc

theorem peqRun_finite {ns : Nat} (par : Params) {s : State} (hn : ns ≤ Config.nMax) (h : FiniteBlock ns s) :
    (peqRun par ns s).nonf = s.nonf := by
  have finite : FiniteBlock ns (peqLooped par ns s) := by
    intro c hc i hi
    rw [peqLooped_chans] at hc
    rw [sampleAt_congr (peqLooped_mem par ns s)]
    exact h c hc i hi
  rw [peqRun_eq, ← peqLooped_chans par ns s, peqChannels_finite hn finite]
  exact spaFeed_finite h

/-! ## The two commands on a finite block -/

/-- On a finite block SPA_PRODUCE is the feed (R132). -/
theorem exec_spaProduce_finite {ns : Nat} {s : State} (hr : Ready ns s) (hf : FiniteBlock ns s) :
    ∃ w, exec (.spaProduce ns) s = .next (complete (spaFeed ns (accept w s))) := by
  obtain ⟨w, hw⟩ := (blockLength_command (i := .spaProduce ns) rfl).1
  have mapped := ready_mapped hr
  have finite : (spaFeed ns (accept w s)).nonf = false := spaFeed_finite hf
  refine ⟨w, exec_ready hr rfl hw ?_⟩
  rw [← settle_finite (f := freeSpa ns) (s := accept w s) finite]
  exact onSamples_next mapped.1 mapped.2

/-- Enabled, on a finite block, PEQ_PROCESS is its rule with the parameter registers (R119). -/
theorem exec_peqProcess_finite {ns : Nat} {s : State} (hr : Ready ns s) (hf : FiniteBlock ns s)
    (he : s.par.eqEn ≠ 0) :
    ∃ w, exec (.peqProcess ns) s = .next (complete (peqRun s.par ns (accept w s))) := by
  obtain ⟨w, hw⟩ := (blockLength_command (i := .peqProcess ns) rfl).1
  have mapped := ready_mapped hr
  have enabled : peqProcess s.par ns (accept w s) = peqRun s.par ns (accept w s) := if_neg he
  have finite : (peqProcess s.par ns (accept w s)).nonf = false := enabled ▸ peqRun_finite s.par mapped.2 hf
  refine ⟨w, exec_ready hr rfl hw ?_⟩
  rw [← enabled, ← settle_finite (s := accept w s) finite]
  exact onSamples_next mapped.1 mapped.2

/-- Settles O48: the frame is that of every block command, the effect that of `peqRun`. -/
theorem peqProcessEffect : Obligations.PeqProcessEffect := by
  refine ⟨fun _ _ _ => rfl, fun band st x => ?chain, fun ns s hr hf he => ?process⟩
  case chain =>
    exact ⟨fun b => (each b (bandPass band) (st, x)).2, rfl, rfl, fun b hb => bandChain_bands band st x hb⟩
  case process =>
    obtain ⟨w, hexec⟩ := exec_peqProcess_finite hr hf he
    obtain ⟨v, hfeed⟩ := exec_spaProduce_finite hr hf
    obtain ⟨t, ht, hdone, hcontrol, hprep, hresult, houtside⟩ := block_completes (i := .peqProcess ns) hr rfl
    obtain rfl := Host.Outcome.next.inj (ht.symm.trans hexec)
    obtain ⟨hspa, hnew⟩ := peqRun_spa s.par ns (accept w s)
    have mapped := ready_mapped hr
    have finite : (peqRun s.par ns (accept w s)).nonf = false := peqRun_finite s.par mapped.2 hf
    exact ⟨_, hexec, hdone, hcontrol, hprep, by simp [finite], by simp, by simp, by simp, hresult,
      ⟨_, hfeed, hspa, hnew⟩, fun b hb => peqRun_band s.par ns (accept w s) hb,
      fun c hc => peqRun_runs s.par (accept w s) mapped.2 mapped.1 hc,
      fun c hc => peqRun_otherSt s.par ns (accept w s) hc, houtside⟩

end Sys2Proof.Machine
end

section
/-!
PROOFS. What the decoder answers (R59 to R66): a word that names a command is that command's own word, and a
transaction decodes to a bus operation with an encoding, never to a command.
-/

namespace Sys2Proof.Machine

open Sys2Proof.Safety

/-! ## Command words -/

theorem decodeCommand_row {w : Word} {i : Instr} (h : decodeCommand w = .ok i) :
    ∃ row ∈ cmdRows, row.holds w = true ∧ row.build (fieldInst w) (fieldNs w) = i := by
  unfold decodeCommand at h
  split at h
  · rename_i row found
    have holds := List.find?_some (p := fun r => CmdRow.holds r w) found
    exact ⟨row, List.mem_of_find?_eq_some found, holds, Except.ok.inj h⟩
  · cases h

/-- The word of the command a row builds: the row's opcode, and 0 in every field its format does not use. -/
theorem commandWord_build (inst ns : Nat) : ∀ row ∈ cmdRows, commandWord (row.build inst ns) =
    some (cmdWord row.op (if row.format.hasInst then inst else 0) (if row.format.hasNs then ns else 0)) := by
  simp only [cmdRows, List.forall_mem_cons]
  exact ⟨rfl, rfl, rfl, rfl, rfl, rfl, rfl, rfl, rfl, rfl, rfl, rfl, rfl, rfl, rfl, rfl, rfl, nofun⟩

/-- A word that matches a row is put together from its own fields (R59, R61). -/
theorem cmdWord_of_holds {row : CmdRow} {w : Word} (h : row.holds w = true) :
    cmdWord row.op (if row.format.hasInst then fieldInst w else 0) (if row.format.hasNs then fieldNs w else 0) = w := by
  simp only [CmdRow.holds, Bool.and_eq_true, Bool.or_eq_true, beq_iff_eq] at h
  obtain ⟨⟨⟨hop, hrsv⟩, hinst⟩, hns⟩ := h
  have inst : (if row.format.hasInst then fieldInst w else 0) = fieldInst w := by split <;> simp_all
  have ns : (if row.format.hasNs then fieldNs w else 0) = fieldNs w := by split <;> simp_all
  rw [inst, ns, hop]
  apply BitVec.eq_of_toNat_eq
  have := w.isLt
  simp only [cmdWord, fieldOp, fieldInst, fieldRsv, fieldNs, BitVec.toNat_ofNat] at *
  omega

/-- A word that names a command is that command's own word. -/
theorem decodeCommand_word {w : Word} {i : Instr} (h : decodeCommand w = .ok i) : commandWord i = some w := by
  obtain ⟨row, hrow, holds, rfl⟩ := decodeCommand_row h
  rw [commandWord_build _ _ row hrow, cmdWord_of_holds holds]

/-! ## Bus transactions -/

/-- Every row of the bus map builds bus operations. -/
theorem busRow_bus : ∀ row ∈ busRows, ∀ j w, commandWord (row.build j w) = none := by
  simp only [busRows, ctlReadRows, ctlWriteRows, paramWriteRows, paramReadRows, monitorRows, windowRows,
    List.forall_mem_append, List.forall_mem_cons, List.not_mem_nil, false_implies, implies_true,
    and_true]
  and_intros <;> exact fun _ _ => rfl

/-- On the words of its row an operation has an encoding: the indexed rows alone bound their index (R66). -/
theorem busRow_wellFormed : ∀ row ∈ busRows, ∀ j w, j < row.count → (row.build j w).wellFormed = true := by
  have sample (j : Nat) (h : j < Config.cMax * 4096) : j / 4096 < Config.cMax ∧ j % 4096 < Config.nMax := by
    simp only [Config.cMax, Config.nMax] at *
    omega
  simp only [busRows, ctlReadRows, ctlWriteRows, paramWriteRows, paramReadRows, monitorRows, windowRows,
    List.forall_mem_append, List.forall_mem_cons, List.not_mem_nil, false_implies, implies_true, and_true, true_and,
    Instr.wellFormed, Bool.and_eq_true, decide_eq_true_eq, imp_self]
  exact ⟨fun j _ => sample j, fun j _ => sample j⟩

/-- A transaction decodes to a bus operation, and to one that has an encoding (R64, R66). -/
theorem decodeTxn_bus {t : Txn} {i : Instr} (h : decodeTxn t = .ok i) :
    commandWord i = none ∧ i.wellFormed = true := by
  unfold decodeTxn decodeKey at h
  split at h
  · cases h
  · split at h
    · rename_i row found
      obtain rfl := Except.ok.inj h
      have inside : row.holds t.key = true := List.find?_some (p := fun r => BusRow.holds r t.key) found
      simp only [BusRow.holds, Bool.and_eq_true, decide_eq_true_eq] at inside
      have listed := List.mem_of_find?_eq_some found
      exact ⟨busRow_bus row listed _ _, busRow_wellFormed row listed _ _ (by omega)⟩
    · cases h

end Sys2Proof.Machine
end

section
/-!
PROOFS. What a step can do, said once: the effects of an access the host presents, of the sequencer's stages, and of
the step. PREPARED's changes (R23, R77, R188) follow.
-/

namespace Sys2Proof.Machine

open Sys2Proof.Safety

/-! ## The checks of R74 -/

theorem checkConfig_none {s : State} : checkConfig s = none ↔ cfgOk s.cfg = true := by
  unfold checkConfig
  split <;> simp_all

/-- The checks read the configuration words, the latched ones and PREPARED. -/
theorem commandCheck_congr {s t : State} (i : Instr) (hcfg : t.cfg = s.cfg) (hprep : t.prep = s.prep)
    (hprepared : t.prepared = s.prepared) : commandCheck i t = commandCheck i s := by
  have config : checkConfig t = checkConfig s := by simp only [checkConfig, hcfg]
  have prepared : checkPrepared t = checkPrepared s := by simp only [checkPrepared, hprepared]
  have block (ns : Nat) : checkBlock ns t = checkBlock ns s := by simp only [checkBlock, hprep, hprepared]
  unfold commandCheck
  split <;> simp only [config, prepared, block]

/-- A check that refuses names an error (R170). -/
theorem commandCheck_names {i : Instr} {s : State} {k : ErrKind} (h : commandCheck i s = some k) : k ≠ .none := by
  have config : checkConfig s ≠ some .none := by unfold checkConfig; split <;> simp
  have prepared : checkPrepared s ≠ some .none := by unfold checkPrepared; split <;> simp
  have block (ns : Nat) : checkBlock ns s ≠ some .none := by
    unfold checkBlock
    split
    · split <;> simp
    · simp
  rintro rfl
  revert h
  unfold commandCheck
  split <;> simp only [config, prepared, block, reduceCtorEq, imp_self]

/-! ## The ranges of the integer parameters (R86, R87) -/

theorem clampInt_le {hi : Nat} (w : Word) (h : hi < 2 ^ 32) : (clampInt hi w).toNat ≤ hi := by
  have nonneg : 0 ≤ if (0 : Int) > w.toInt then 0 else w.toInt := by split <;> omega
  unfold clampInt
  rw [BitVec.toNat_ofInt]
  generalize (if (0 : Int) > w.toInt then 0 else w.toInt) = m at *
  split <;> omega

theorem and_one_le (w : Word) : (w &&& 1#32).toNat ≤ 1 := by
  rw [BitVec.toNat_and]
  exact Nat.and_le_right

/-! ## The effects of an access -/

/-- What an access the host presents can leave of a state: a word read, an error latched, one register or one sample
written, a command accepted (WR.CMD), or a command carried to its completion. New parameters are legal where the old
ones are (R85 to R87). -/
inductive AccessEffect (s : State) : Access → State → Prop
  | given (a : Access) (w : Word) : AccessEffect s a (give w s)
  | free (a : Access) : AccessEffect s a (giveFree s)
  | raised (a : Access) (k : ErrKind) (info : Word) (named : k ≠ .none) : AccessEffect s a (raise k info s)
  | refusedRead (a : Access) (k : ErrKind) (info : Word) (named : k ≠ .none) :
      AccessEffect s a (raise k info (give 0 s))
  | status (a : Access) (w : Word) : AccessEffect s a (clearStatus w s)
  | irqEn (a : Access) (w : Word) : AccessEffect s a { s with irqEn := w &&& irqMask }
  | arg (a : Access) (w : Word) : AccessEffect s a { s with arg := w }
  | cfg (a : Access) (c : Cfg) : AccessEffect s a { s with cfg := c }
  | pnan (a : Access) : AccessEffect s a { s with pnan := true }
  | params (a : Access) (p : Params) (legal : LegalParams s.par → LegalParams p) :
      AccessEffect s a { s with par := p }
  | sample (a : Access) (c i : Nat) (w : Word) (hc : c < Config.cMax) (hi : i < Config.nMax) :
      AccessEffect s a { s with mem := s.mem.writeWord (saddr c i) w }
  | accepted (a : Access) (w : Word) (i : Instr) (idle : s.run = none) (word : decodeCommand w = .ok i)
      (passed : commandCheck i s = none) : AccessEffect s a (accept w s)
  | carriedOut (w : Word) (i : Instr) (u : State) (idle : s.run = none) (word : decodeCommand w = .ok i)
      (passed : commandCheck i s = none) (rule : commandBody i (running w s) (accept w s) = .next u) :
      AccessEffect s (.command w) (complete u)

namespace AccessEffect

theorem refuse {s : State} {k : ErrKind} (a : Access) (write : Bool) (addr : Word) (named : k ≠ .none) :
    AccessEffect s a (refuse write k addr s) := by
  cases write with
  | true => exact .raised a k addr named
  | false => exact .refusedRead a k addr named

theorem reject (s : State) (a : Access) (r : Reject) : AccessEffect s a (rejectAccess r a s) := by
  cases a with
  | command w => exact .raised _ _ w (by split <;> simp)
  | bus t => exact .refuse _ t.write _ (by cases r <;> simp)

theorem monitorRead (s : State) (a : Access) (w : Word) : AccessEffect s a (monitorRead w s) := by
  unfold Machine.monitorRead
  split
  · exact .free a
  · exact .given a w

theorem windowRead (s : State) (a : Access) (addr : Nat) (w : Word) : AccessEffect s a (windowRead addr w s) := by
  unfold Machine.windowRead
  split
  · exact .refuse a false _ (by simp)
  · exact .given a w

/-- `WRITE_F` (R85): bounds that do not cross, and a register whose range they are. -/
theorem writeFloat {s : State} {set : F32 → Params → Params} {lo hi : F32} (a : Access) (w : Word)
    (bounds : Fp.isNaN lo = false ∧ Fp.isNaN hi = false ∧ Fp.lt hi lo = false)
    (legal : ∀ x, inRange lo hi x = true → LegalParams s.par → LegalParams (set x s.par)) :
    AccessEffect s a (writeFloat set lo hi w s) := by
  unfold Machine.writeFloat
  split
  · exact .pnan a
  · rename_i number
    have inside := Fp.clamp_inRange (by simpa using number) bounds.1 bounds.2.1 bounds.2.2
    exact .params a _ (legal _ inside)

/-- The write of a cutoff register (R94, R95). -/
theorem writeCutoff {s : State} {set : F32 → Params → Params} (a : Access) (w : Word)
    (legal : ∀ x, Fp.isNaN x = false → LegalParams s.par → LegalParams (set x s.par)) :
    AccessEffect s a (writeCutoff set w s) := by
  unfold Machine.writeCutoff
  split
  · exact .pnan a
  · rename_i number
    exact .params a _ (legal _ (by simpa using number))

/-- `WR.CMD` (R74): refused, or accepted with the checks passed. -/
theorem writeCommand {s t : State} {w : Word} (a : Access) (h : execWrCmd w s = .next t) : AccessEffect s a t := by
  unfold execWrCmd at h
  split at h
  · cases h; exact .raised a _ w (by simp)
  · rename_i idle
    split at h
    · cases h; exact .raised a _ w (by simp)
    · rename_i i word
      split at h
      · rename_i k refused
        cases h; exact .raised a k w (commandCheck_names refused)
      · rename_i passed
        cases h; exact .accepted a w i (by simpa [busy] using idle) word passed

/-- A word carried to its completion (R73, R74). -/
theorem command {s t : State} {w : Word} {i : Instr} (word : decodeCommand w = .ok i) (h : exec i s = .next t) :
    AccessEffect s (.command w) t := by
  rw [exec_command (decodeCommand_word word)] at h
  rcases issue_cases h with ⟨-, rfl⟩ | ⟨-, k, refused, rfl⟩ | ⟨idle, passed, u, rule, rfl⟩
  · exact .raised _ _ w (by simp)
  · exact .raised _ k w (commandCheck_names refused)
  · exact .carriedOut w i u idle word passed rule

/-- A bus operation with an encoding, by its kind. -/
theorem bus {s t : State} {i : Instr} (a : Access) (hbus : commandWord i = none) (wf : i.wellFormed = true)
    (h : exec i s = .next t) : AccessEffect s a t := by
  cases i with
  | nop | prepare | resetAll | spaReset | spaProduce | firReset | firProcess | peqReset | peqProcess | wsReset
  | wsProcess | wsCurve | lmReset | lmAnalyzeIn | lmAnalyzeOut | lmApply | chainProcess => cases hbus
  | wrCmd w => exact writeCommand a h
  | wrStatus w => cases h; exact .status a w
  | wrIrqEn w => cases h; exact .irqEn a w
  | wrArg w => cases h; exact .arg a w
  | wrCfgFs w | wrCfgMaxblock w | wrCfgChannels w => cases h; exact .cfg a _
  | wrInGainDb w => cases h; exact .writeFloat a w (by decide) fun x hx p => { p with inGainDb := hx }
  | wrOutGainDb w => cases h; exact .writeFloat a w (by decide) fun x hx p => { p with outGainDb := hx }
  | wrDriveDb w => cases h; exact .writeFloat a w (by decide) fun x hx p => { p with driveDb := hx }
  | wrMixPct w => cases h; exact .writeFloat a w (by decide) fun x hx p => { p with mixPct := hx }
  | wrEqStrengthPct w => cases h; exact .writeFloat a w (by decide) fun x hx p => { p with eqStrengthPct := hx }
  | wrEqReactionMs w => cases h; exact .writeFloat a w (by decide) fun x hx p => { p with eqReactionMs := hx }
  | wrLowcutHz w => cases h; exact .writeCutoff a w fun x hx p => { p with lowcutHz := hx }
  | wrHighcutHz w => cases h; exact .writeCutoff a w fun x hx p => { p with highcutHz := hx }
  | wrAlgorithm w => cases h; exact .params a _ fun p => { p with algorithm := clampInt_le w (by decide) }
  | wrEqCurve w => cases h; exact .params a _ fun p => { p with eqCurve := clampInt_le w (by decide) }
  | wrSolo w => cases h; exact .params a _ fun p => { p with solo := and_one_le w }
  | wrFilterEn w => cases h; exact .params a _ fun p => { p with filterEn := and_one_le w }
  | wrEqEn w => cases h; exact .params a _ fun p => { p with eqEn := and_one_le w }
  | wrSample c i w =>
    simp only [Instr.wellFormed, Bool.and_eq_true, decide_eq_true_eq] at wf
    cases h
    split
    · exact .refuse a true _ (by simp)
    · exact .sample a c i w wf.1 wf.2
  | rdWsInRms | rdWsInPeak | rdWsOutRms | rdWsOutPeak | rdEqGain | rdEqSpectrum | rdLmCompDb | rdLmInLoud
  | rdLmOutLoud | rdLmTarget | rdLmGainLin | rdSpaWpos | rdSpaCount => cases h; exact .monitorRead s a _
  | rdSpec | rdBinfreq | rdSample => cases h; exact .windowRead s a _ _
  | _ => cases h; exact .given a _

end AccessEffect

theorem deliver_effect {a : Access} {s t : State} (h : deliver a s = .next t) : AccessEffect s a t := by
  unfold deliver at h
  split at h
  · rename_i i decoded
    cases a with
    | command w => exact .command decoded h
    | bus x =>
      obtain ⟨hbus, wf⟩ := decodeTxn_bus decoded
      exact .bus _ hbus wf h
  · rename_i r rejected
    cases h; exact .reject s a r

/-! ## The effects of the sequencer and of a step -/

/-- What the sequencer's next stage leaves: the same state while idle, the completion, or the rule performed; a word
that names no command has no rule (log 7). -/
inductive SequencerEffect (s : State) : State → Prop
  | idle (h : s.run = none) : SequencerEffect s s
  | completed (r : Running) (h : s.run = some r) (worked : r.worked = true) : SequencerEffect s (complete s)
  | performed (r : Running) (i : Instr) (u : State) (h : s.run = some r) (pending : r.worked = false)
      (word : decodeCommand r.cur = .ok i) (rule : commandBody i r s = .next u) : SequencerEffect s (markWorked r u)
  | unnamed (r : Running) (h : s.run = some r) : SequencerEffect s (markWorked r s)

theorem sequencerStage_effect {s t : State} (h : sequencerStage s = .next t) : SequencerEffect s t := by
  unfold sequencerStage at h
  split at h
  · rename_i idle
    cases h; exact .idle idle
  · rename_i r running
    split at h
    · rename_i worked
      cases h; exact .completed r running worked
    · rename_i pending
      split at h
      · rename_i i word
        cases rule : commandBody i r s <;> simp only [rule, andThen] at h <;> cases h
        exact .performed r i _ running (by simpa using pending) word rule
      · cases h; exact .unnamed r running

/-- A step: the hardware reset, an access delivered, or a stage of the sequencer, the event taken off the inbox. -/
theorem step_cases {s t : State} (h : step s = .next t) : ∃ rest,
    (s.inbox = .hardReset :: rest ∧ t = hardReset { s with inbox := rest }) ∨
    (∃ a, s.inbox = .access a :: rest ∧ AccessEffect { s with inbox := rest } a t) ∨
    SequencerEffect { s with inbox := rest } t := by
  unfold step at h
  split at h
  · exact ⟨s.inbox, .inr (.inr (sequencerStage_effect h))⟩
  · rename_i a rest pending
    exact ⟨rest, .inr (.inl ⟨a, pending, deliver_effect h⟩)⟩
  · rename_i rest pending
    exact ⟨rest, .inr (.inr (sequencerStage_effect h))⟩
  · rename_i rest pending
    cases h; exact ⟨rest, .inl ⟨pending, rfl⟩⟩

/-! ## PREPARED -/

/-- PREPARE latches the configuration it captured and sets PREPARED (R77; log 8). -/
theorem bodyPrepare_latches {r : Running} {s t : State} (h : bodyPrepare r s = .next t) :
    t.prep = r.cfg ∧ t.prepared = true := by
  cases h
  simp

/-- The rule of PREPARE alone touches the latched configuration, and it sets PREPARED; its word is 1 (R65, R77). -/
theorem commandBody_prepared {i : Instr} {r : Running} {w : Word} {s t : State} (word : decodeCommand w = .ok i)
    (h : commandBody i r s = .next t) : t.prepared = s.prepared ∨ (w = 0x00000001#32 ∧ t.prepared = true) := by
  by_cases hi : i = .prepare
  · subst hi
    exact .inr ⟨(Option.some.inj (decodeCommand_word word)).symm, (bodyPrepare_latches h).2⟩
  · exact .inl (commandBody_prep h hi).2

theorem AccessEffect.prepared {s t : State} {a : Access} (h : AccessEffect s a t) :
    t.prepared = s.prepared ∨ (a = .command 0x00000001#32 ∧ t.prepared = true) := by
  cases h with
  | carriedOut w i u _ word _ rule =>
    exact (commandBody_prepared word rule).imp_right fun ⟨hw, hu⟩ => ⟨congrArg Access.command hw, hu⟩
  | _ => exact .inl (by simp)

theorem SequencerEffect.prepared {s t : State} (h : SequencerEffect s t) : t.prepared = s.prepared ∨
    (t.prepared = true ∧ ∃ r, s.run = some r ∧ r.worked = false ∧ r.cur = 0x00000001#32) := by
  cases h with
  | performed r i u running pending word rule =>
    exact (commandBody_prepared word rule).imp_right fun ⟨hw, hu⟩ => ⟨hu, r, running, pending, hw⟩
  | _ => exact .inl rfl

/-- Settles O19: by the effects of a step. -/
theorem preparedChanges : Obligations.PreparedChanges := by
  intro s t h changed
  obtain ⟨rest, ⟨pending, rfl⟩ | ⟨a, pending, effect⟩ | effect⟩ := step_cases h
  · exact .inl ⟨rfl, rest, pending⟩
  · rcases effect.prepared with same | ⟨rfl, set⟩
    · exact absurd same changed
    · exact .inr ⟨set, .inl ⟨rest, pending⟩⟩
  · rcases effect.prepared with same | ⟨set, running⟩
    · exact absurd same changed
    · exact .inr ⟨set, .inr running⟩

end Sys2Proof.Machine
end

section
/-!
PROOFS. Legal states are kept by every step: by what a command's rule does to the loudness target and to sample RAM,
by each effect of an access, by the sequencer's stages and by the hardware reset.
-/

namespace Sys2Proof.Machine

open Sys2Proof.Safety

/-! ## The loudness target (R162) -/

/-- While no target is latched, `LM_TARGET` is 0. -/
def TargetLegal (m : LmState) : Prop := m.targetValid = false → m.target = 0

theorem targetLegal_of_valid {m : LmState} (h : m.targetValid = true) : TargetLegal m := by
  simp [TargetLegal, h]

/-- Settling keeps what the rule and the choice of free values keep of the target. -/
theorem settle_target {f : Nat → State → State → State} {s t : State} (rule : TargetLegal t.lm)
    (free : ∀ d, TargetLegal (f d s t).lm) : TargetLegal (settle f s t).lm := by
  unfold settle
  split
  · exact free s.draws
  · exact rule

/-- A measured input latches a target, and what comes after it in the chain keeps it latched (R152, R157). -/
theorem chainSteps_targetValid (par : Params) (ns : Nat) (s : State) :
    (chainSteps par ns s).lm.targetValid = true := by
  simp [chainSteps, lmApply_lm, lmAnalyzeOut, lmAnalyzeIn]

theorem freeChain_targetValid (par : Params) (ns d : Nat) (s t : State) :
    (freeChain par ns d s t).lm.targetValid = t.lm.targetValid := by
  simp [freeChain, freeLmApply, freeLmIn, freeLmOut]

/-- The resets clear the target with its flag (R150), a measured input sets both (R152), and no other rule touches
either. -/
theorem commandBody_target {i : Instr} {r : Running} {s t : State} (h : commandBody i r s = .next t)
    (hs : TargetLegal s.lm) : TargetLegal t.lm := by
  cases i with
  | prepare | resetAll | lmReset => cases h; exact fun _ => rfl
  | spaProduce ns =>
    obtain ⟨-, -, -, hlm, -⟩ := commandBody_spaProduce_units h
    rwa [hlm]
  | firProcess inst ns =>
    obtain ⟨-, -, -, hlm, -⟩ := commandBody_firProcess_units h
    rwa [hlm]
  | peqProcess ns =>
    obtain ⟨-, -, hlm⟩ := commandBody_peqProcess_units h
    rwa [hlm]
  | wsProcess ns =>
    obtain ⟨-, -, -, hlm, -⟩ := commandBody_wsProcess_units h
    rwa [hlm]
  | lmAnalyzeIn ns =>
    obtain ⟨rfl, -, -⟩ := onSamples_cases h
    exact settle_target (targetLegal_of_valid rfl) fun d => targetLegal_of_valid rfl
  | lmAnalyzeOut ns =>
    obtain ⟨rfl, -, -⟩ := onSamples_cases h
    exact settle_target hs fun d => hs
  | lmApply ns =>
    obtain ⟨rfl, -, -⟩ := onSamples_cases h
    have kept : TargetLegal (lmApply ns s).lm := by rw [lmApply_lm]; exact hs
    exact settle_target kept fun d => by simpa [TargetLegal, freeLmApply] using kept
  | chainProcess ns =>
    obtain ⟨rfl, -, -⟩ := onSamples_cases h
    have valid := chainSteps_targetValid r.snap.par ns s
    exact settle_target (targetLegal_of_valid valid)
      fun d => targetLegal_of_valid ((freeChain_targetValid _ _ _ _ _).trans valid)
  | wsCurve => cases h; exact settle_target hs fun d => hs
  | spaReset | firReset _ | peqReset | wsReset => cases h; simpa using hs
  | _ => cases h; exact hs

/-! ## What a rule that answers keeps and where it stores -/

/-- No rule touches the sequencer's record. -/
theorem commandBody_run {i : Instr} {r : Running} {s t : State} (h : commandBody i r s = .next t) : t.run = s.run := by
  obtain ⟨-, -, -, -, -, -, -, -, -, -, -, hrun, -⟩ := commandBody_frame h
  exact hrun

/-- A block command's rule is performed on a mapped block only (log 14). -/
theorem commandBody_length {i : Instr} {r : Running} {s t : State} (h : commandBody i r s = .next t) :
    (blockLength i).getD 0 ≤ Config.nMax := by
  cases i with
  | spaProduce | firProcess | peqProcess | wsProcess | lmAnalyzeIn | lmAnalyzeOut | lmApply | chainProcess =>
    exact (onSamples_cases h).2.2
  | _ => exact Nat.zero_le _

end Sys2Proof.Machine

namespace Sys2Proof.Safety

open Sys2Proof.Machine

/-- The parameter registers after reset (R31). -/
theorem LegalParams.reset : LegalParams Params.reset := by constructor <;> decide

/-! ## What a running command stays legal under -/

/-- The latched configuration is the same and DONE stays clear. -/
theorem LegalRun.congr {s t : State} {r : Running} (h : LegalRun s r) (hprep : t.prep = s.prep)
    (hprepared : t.prepared = s.prepared) (hdone : s.done = false → t.done = false) : LegalRun t r where
  snapshot := h.snapshot
  accepted := fun pending => by
    obtain ⟨i, word, passed⟩ := h.accepted pending
    exact ⟨i, word, (commandCheck_congr (s := { s with cfg := r.cfg }) (t := { t with cfg := r.cfg }) i rfl hprep
      hprepared).trans passed⟩
  doneClear := hdone h.doneClear

namespace Legal

/-! ## What a legal state stays legal under -/

/-- The same command runs, or none. -/
theorem run_congr {s t : State} (h : Legal s) (hrun : t.run = s.run) (hprep : t.prep = s.prep)
    (hprepared : t.prepared = s.prepared) (hdone : s.done = false → t.done = false) :
    ∀ r, t.run = some r → LegalRun t r :=
  fun r hr => (h.run r (hrun ▸ hr)).congr hprep hprepared hdone

/-- In a legal state the prepared channel count is within the map (R43, R77). -/
theorem chans_le {s : State} (h : Legal s) : chans s ≤ Config.cMax := by
  cases hp : s.prepared with
  | true => exact (cfgOk_bounds (h.prepared hp)).2.2.2
  | false => simp [chans, h.unprepared hp, Cfg.reset]

theorem raise {s : State} (h : Legal s) {k : ErrKind} (info : Word) (named : k ≠ .none) : Legal (raise k info s) := by
  unfold Machine.raise
  split
  · rename_i latched
    exact { h with
      noError := fun clear => absurd clear (by simp [latched])
      run := h.run_congr rfl rfl rfl id }
  · exact { h with
      noError := nofun
      error := fun _ => named
      run := h.run_congr rfl rfl rfl id }

theorem clearStatus {s : State} (h : Legal s) (w : Word) : Legal (clearStatus w s) := by
  have doneClear (clear : s.done = false) : (s.done && !w.getLsbD 1) = false := by simp [clear]
  cases hw : w.getLsbD 2 <;> simp only [Machine.clearStatus, hw, if_true, Bool.false_eq_true, if_false]
  · exact { h with run := h.run_congr rfl rfl rfl doneClear }
  · exact { h with
      noError := fun _ => ⟨rfl, rfl, rfl⟩
      error := nofun
      run := h.run_congr rfl rfl rfl doneClear }

theorem give {s : State} (h : Legal s) (w : Word) : Legal (give w s) :=
  { h with run := h.run_congr rfl rfl rfl id }

/-- Acceptance: the word names the command whose checks passed, on the configuration it captures (R74). -/
theorem accept {s : State} (h : Legal s) {w : Word} {i : Instr} (word : decodeCommand w = .ok i)
    (passed : commandCheck i s = none) : Legal (accept w s) :=
  { h with
    run := fun r hr => by
      cases hr
      exact ⟨h.params, fun _ => ⟨i, word, (commandCheck_congr i rfl rfl rfl).trans passed⟩, rfl⟩ }

/-- What the rule of the running command latches. PREPARE latches the configuration it captured, which its check
passed (R74, R77); every other rule keeps the latched one. -/
theorem rule_latches {s t : State} (h : Legal s) {r : Running} {i : Instr} (running : s.run = some r)
    (pending : r.worked = false) (word : decodeCommand r.cur = .ok i) (hrule : commandBody i r s = .next t) :
    (t.prepared = true → cfgOk t.prep = true) ∧ (t.prepared = false → t.prep = Cfg.reset) ∧ LegalRun t r := by
  have legal := h.run r running
  obtain ⟨hdone, -⟩ := commandBody_frame hrule
  by_cases hi : i = .prepare
  · subst hi
    obtain ⟨hprep, hprepared⟩ := bodyPrepare_latches hrule
    obtain ⟨j, wordj, passed⟩ := legal.accepted pending
    obtain rfl := Except.ok.inj (word.symm.trans wordj)
    have config : cfgOk r.cfg = true := checkConfig_none.1 passed
    exact ⟨fun _ => hprep ▸ config, fun clear => absurd clear (by simp [hprepared]), legal.snapshot,
      fun _ => ⟨.prepare, word, checkConfig_none.2 config⟩, hdone.trans legal.doneClear⟩
  · obtain ⟨hprep, hprepared⟩ := commandBody_prep hrule hi
    rw [hprep, hprepared]
    exact ⟨h.prepared, h.unprepared, legal.congr hprep hprepared hdone.trans⟩

/-- The rule of the running command (R74). -/
theorem rule {s t : State} (h : Legal s) {r : Running} {i : Instr} (running : s.run = some r)
    (pending : r.worked = false) (word : decodeCommand r.cur = .ok i) (hrule : commandBody i r s = .next t) :
    Legal t := by
  obtain ⟨-, herr, -, -, hcode, hovf, hinfo, hirq, -, -, hpar, -⟩ := commandBody_frame hrule
  obtain ⟨hwf, hmapped, -, -⟩ := commandBody_stores hrule
  obtain ⟨prepared, unprepared, legalRun⟩ := h.rule_latches running pending word hrule
  exact {
    params := hpar ▸ h.params
    irqEn := hirq ▸ h.irqEn
    noError := by rw [herr, hcode, hovf, hinfo]; exact h.noError
    error := by rw [herr, hcode]; exact h.error
    prepared := prepared
    unprepared := unprepared
    target := commandBody_target hrule h.target
    run := fun q hq => by
      obtain rfl := Option.some.inj (((commandBody_run hrule).trans running).symm.trans hq)
      exact legalRun
    memWf := hwf h.memWf
    memMapped := hmapped h.chans_le (commandBody_length hrule) h.memMapped }

/-- A command whose rule is performed, or none: nothing is left to check. -/
theorem markWorked {s : State} (h : Legal s) {r : Running} (running : s.run = some r) : Legal (markWorked r s) :=
  { h with
    run := fun q hq => by
      cases hq
      exact ⟨(h.run r running).snapshot, nofun, (h.run r running).doneClear⟩ }

theorem complete {s : State} (h : Legal s) : Legal (complete s) := { h with run := nofun }

/-- The state after the hardware reset (R187). -/
theorem hardReset (s : State) : Legal (hardReset s) where
  params := LegalParams.reset
  irqEn := BitVec.zero_and
  noError := fun _ => ⟨rfl, rfl, rfl⟩
  error := nofun
  prepared := nofun
  unprepared := fun _ => rfl
  target := fun _ => rfl
  run := nofun
  memWf := Memory.empty_wf _
  memMapped := Memory.empty_mapped _

/-! ## Every step -/

theorem access {s t : State} (h : Legal s) {a : Access} (effect : AccessEffect s a t) : Legal t := by
  cases effect with
  | given _ w => exact h.give w
  | free | arg | cfg | pnan => exact { h with run := h.run_congr rfl rfl rfl id }
  | raised _ k info named => exact h.raise info named
  | refusedRead _ k info named => exact (h.give 0).raise info named
  | status _ w => exact h.clearStatus w
  | irqEn _ w => exact { h with irqEn := by simp [BitVec.and_assoc], run := h.run_congr rfl rfl rfl id }
  | params _ p legal => exact { h with params := legal h.params, run := h.run_congr rfl rfl rfl id }
  | sample _ c i w hc hi =>
    have low : 0x10000 ≤ saddr c i := by unfold saddr; omega
    have high : saddr c i + 4 ≤ ramEnd := by
      simp only [saddr, ramEnd, Config.cMax, Config.nMax] at *
      omega
    exact { h with
      run := h.run_congr rfl rfl rfl id
      memWf := Memory.writeWord_wf h.memWf _ w
      memMapped := Memory.writeWord_mapped h.memMapped w low high }
  | accepted _ w i _ word passed => exact h.accept word passed
  | carriedOut w i u _ word passed hrule => exact ((h.accept word passed).rule rfl rfl word hrule).complete

theorem sequencer {s t : State} (h : Legal s) (effect : SequencerEffect s t) : Legal t := by
  cases effect with
  | idle => exact h
  | completed => exact h.complete
  | performed r i u running pending word hrule =>
    exact (h.rule running pending word hrule).markWorked ((commandBody_run hrule).trans running)
  | unnamed r running => exact h.markWorked running

theorem takeEvent {s : State} (h : Legal s) (rest : List Event) : Legal { s with inbox := rest } :=
  { h with run := h.run_congr rfl rfl rfl id }

end Legal

end Sys2Proof.Safety

namespace Sys2Proof.Machine

/-- Settles O11: by the effects of a step. -/
theorem legalKept : Obligations.LegalKept := by
  intro s t h hstep
  obtain ⟨rest, ⟨-, rfl⟩ | ⟨a, -, effect⟩ | effect⟩ := step_cases hstep
  · exact .hardReset _
  · exact (h.takeEvent rest).access effect
  · exact (h.takeEvent rest).sequencer effect

end Sys2Proof.Machine
end

section
/-!
PROOFS. The control loop of one band (R119 to R125), and the range of the band-to-bin map (R34, R117): what rounding
gives where no NaN goes in, and `floor` between two bounds.
-/

namespace Sys2Proof.Machine

open Sys2Proof.Safety

/-! ## The control loop of one band -/

/-- The gate as a choice per cell: gain and coefficients are renewed together or not at all (R124). -/
theorem gate_eq (fs : F32) (b : Nat) (x : EqBand) :
    gate fs b x =
      let stale := Fp.gt (Fp.abs (Fp.sub x.sgain x.gain)) Config.eqRecalcDb
      { x with
        gain := if stale then x.sgain else x.gain
        coef := if stale then peak x.sgain (bandHz b) fs else x.coef } := by
  unfold gate
  dsimp only
  split <;> rfl

/-- The lower bound of the correction (R122). -/
theorem neg_eqCorrMax : Fp.neg Config.eqCorrMax = 0xC1400000#32 := by decide

/-- Settles O49: the four stages in order, the gate by `gate_eq`. -/
theorem bandLoopRule : Obligations.BandLoopRule := by
  intro par fs ns b spec x
  simp only [bandLoop, gate_eq, smoothGain, eqTargetStep, neg_eqCorrMax]
  rfl

/-! ## Where arithmetic gives no NaN (R9) -/

theorem Fp.infOf_not_nan (s : Bool) : Fp.isNaN (Fp.infOf s) = false := Fp.ofBits_not_nan s (Nat.le_refl _)

theorem Fp.zeroOf_not_nan (s : Bool) : Fp.isNaN (Fp.zeroOf s) = false := Fp.ofBits_not_nan s (Nat.zero_le _)

/-- A number that is finite and not zero, divided by a number, is a number. -/
theorem Fp.div_not_nan {a b : F32} (ha : Fp.isFinite a = true) (za : Fp.isZero a = false) (hb : Fp.isNaN b = false) :
    Fp.isNaN (Fp.div a b) = false := by
  have inf : Fp.isInf a = false := by
    simp only [Fp.isFinite, Fp.isInf, decide_eq_true_eq, decide_eq_false_iff_not] at *
    omega
  unfold Fp.div
  simp only [Fp.isFinite_not_nan ha, hb, inf, za, Bool.or_self, Bool.false_eq_true, if_false]
  split
  · exact Fp.zeroOf_not_nan _
  · split
    · exact Fp.infOf_not_nan _
    · exact Fp.roundRatio_not_nan _ _ _

/-- A number times a finite number that is not zero is a number. -/
theorem Fp.mul_not_nan {a b : F32} (ha : Fp.isNaN a = false) (hb : Fp.isFinite b = true) (zb : Fp.isZero b = false) :
    Fp.isNaN (Fp.mul a b) = false := by
  have inf : Fp.isInf b = false := by
    simp only [Fp.isFinite, Fp.isInf, decide_eq_true_eq, decide_eq_false_iff_not] at *
    omega
  unfold Fp.mul
  simp only [Fp.isFinite_not_nan hb, ha, inf, zb, Bool.or_false, Bool.false_eq_true, if_false]
  split
  · rename_i infinite
    have : Fp.isZero a = false := by
      simp only [Fp.isInf, Fp.isZero, decide_eq_true_eq, decide_eq_false_iff_not] at *
      omega
    simp only [this, Bool.false_eq_true, if_false]
    exact Fp.infOf_not_nan _
  · exact Fp.roundRatio_not_nan _ _ _

/-- A number plus a finite number is a number. -/
theorem Fp.add_not_nan {a b : F32} (ha : Fp.isNaN a = false) (hb : Fp.isFinite b = true) :
    Fp.isNaN (Fp.add a b) = false := by
  have inf : Fp.isInf b = false := by
    simp only [Fp.isFinite, Fp.isInf, decide_eq_true_eq, decide_eq_false_iff_not] at *
    omega
  unfold Fp.add
  simp only [Fp.isFinite_not_nan hb, ha, inf, Bool.or_self, Bool.false_and, Bool.false_eq_true, if_false]
  split
  · exact ha
  · split
    · exact Fp.zeroOf_not_nan _
    · exact Fp.roundRatio_not_nan _ _ _

/-! ## The order of patterns is the order of values -/

theorem Fp.mag_lt (x : F32) : Fp.mag x < 2 ^ 23 * 2 ^ (Fp.magBits x / 2 ^ 23) := by
  unfold Fp.mag
  cases e : Fp.magBits x / 2 ^ 23 with
  | zero => simp only [if_true]; omega
  | succ n =>
    rw [if_neg (Nat.succ_ne_zero n), Nat.add_sub_cancel, show 2 ^ 23 * 2 ^ (n + 1) = 2 ^ 24 * 2 ^ n by ring]
    exact Nat.mul_lt_mul_of_pos_right (by omega) (Nat.two_pow_pos n)

theorem Fp.le_mag {x : F32} {n : Nat} (h : Fp.magBits x / 2 ^ 23 = n + 1) : 2 ^ 23 * 2 ^ n ≤ Fp.mag x := by
  unfold Fp.mag
  rw [h, if_neg (Nat.succ_ne_zero n), Nat.add_sub_cancel]
  exact Nat.mul_le_mul_right _ (Nat.le_add_left _ _)

/-- A greater pattern has a greater magnitude: within one exponent by the fraction, else by the exponent. -/
theorem Fp.mag_mono {a b : F32} (h : Fp.magBits a ≤ Fp.magBits b) : Fp.mag a ≤ Fp.mag b := by
  rcases (Nat.div_le_div_right h : Fp.magBits a / 2 ^ 23 ≤ _).eq_or_lt with same | less
  · unfold Fp.mag
    dsimp only
    rw [same]
    split
    · exact h
    · exact Nat.mul_le_mul_right _ (by omega)
  · obtain ⟨n, hn⟩ := Nat.exists_eq_add_one_of_ne_zero (Nat.ne_zero_of_lt less)
    calc Fp.mag a ≤ 2 ^ 23 * 2 ^ (Fp.magBits a / 2 ^ 23) := (Fp.mag_lt a).le
      _ ≤ 2 ^ 23 * 2 ^ n := Nat.mul_le_mul_left _ (Nat.pow_le_pow_right (by omega) (by omega))
      _ ≤ Fp.mag b := Fp.le_mag hn

theorem Fp.units_mono {a b : F32} (h : Fp.key a ≤ Fp.key b) : Fp.units a ≤ Fp.units b := by
  have zero (x : F32) (hx : Fp.magBits x = 0) : Fp.mag x = 0 := by simp [Fp.mag, hx]
  unfold Fp.key at h
  unfold Fp.units
  cases ha : Fp.signBit a <;> cases hb : Fp.signBit b <;> simp only [ha, hb, Bool.false_eq_true, if_true, if_false] at *
  · have := Fp.mag_mono (a := a) (b := b) (by omega)
    omega
  · have := zero a (by omega)
    have := zero b (by omega)
    omega
  · omega
  · have := Fp.mag_mono (a := b) (b := a) (by omega)
    omega

/-- `floor` between bounds that are integers. -/
theorem Fp.floor_inRange {lo hi x : F32} {m n : Int} (h : inRange lo hi x = true) (hm : Fp.units lo = m * 2 ^ 149)
    (hn : Fp.units hi = n * 2 ^ 149) : m ≤ Fp.floor x ∧ Fp.floor x ≤ n := by
  simp only [inRange, Bool.and_eq_true, Fp.le_iff] at h
  have below := Fp.units_mono h.1.2.2
  have above := Fp.units_mono h.2.2.2
  unfold Fp.floor
  omega

/-! ## The band-to-bin map -/

theorem bandHz_finite : ∀ b, b < 8 → Fp.isFinite (bandHz b) = true ∧ Fp.isZero (bandHz b) = false := by decide

/-- What `cfgOk` says of the sample rate. -/
theorem cfgOk_fs {c : Cfg} (h : cfgOk c = true) : Fp.isFinite c.fs = true ∧ Fp.isZero c.fs = false := by
  simp only [cfgOk, Bool.and_eq_true] at h
  obtain ⟨⟨⟨⟨⟨finite, positive⟩, -⟩, -⟩, -⟩, -⟩ := h
  refine ⟨finite, ?_⟩
  obtain ⟨-, -, key⟩ := Fp.gt_iff.1 positive
  by_contra zero
  have zero : Fp.magBits c.fs = 0 := by simpa [Fp.isZero] using zero
  simp [Fp.key, zero] at key
  revert key
  decide

/-- The quotient may be infinite, where half a subnormal rate rounds to zero, but it is a number: the clamp's range
is its range (R117). -/
theorem bandBin_inRange {fs : F32} {b : Nat} (hfs : Fp.isFinite fs = true ∧ Fp.isZero fs = false) (hb : b < 8) :
    1 ≤ (bandBin fs b).toNat ∧ (bandBin fs b).toNat ≤ 1023 := by
  obtain ⟨finite, nonzero⟩ := bandHz_finite b hb
  have nyquist : Fp.isNaN (Fp.div fs 0x40000000#32) = false := Fp.div_not_nan hfs.1 hfs.2 (by decide)
  have ratio := Fp.mul_not_nan (b := 0x44800000#32) (Fp.div_not_nan finite nonzero nyquist) (by decide) (by decide)
  have rounded := Fp.add_not_nan (b := 0x3F000000#32) ratio (by decide)
  have range := Fp.clamp_inRange (lo := 0x3F800000#32) (hi := 0x447FC000#32) rounded (by decide) (by decide) (by decide)
  obtain ⟨low, high⟩ := Fp.floor_inRange (m := 1) (n := 1023) range (by decide +kernel) (by decide +kernel)
  rw [bandBin_eq, BitVec.toNat_ofInt]
  omega

/-- Of the derivations the equaliser's alone touches the bands (R77, R117). -/
theorem deriveUnits_bin (par : Params) (s : State) {b : Nat} (hb : b < 8) :
    (vget (deriveUnits par s).peq.band b EqBand.reset).bin = bandBin s.prep.fs b := by
  have derived : (deriveUnits par s).peq = (eqDerive (wsDerive s)).peq := by simp [deriveUnits]
  rw [derived, ← wsDerive_prep s]
  exact congrArg EqBand.bin (vget_tab (n := 8) _ EqBand.reset hb)

/-- PREPARE's bins are those of the captured sample rate (R77, R117). -/
theorem bodyPrepare_bin {r : Running} {s t : State} (h : bodyPrepare r s = .next t) {b : Nat} (hb : b < 8) :
    (vget t.peq.band b EqBand.reset).bin = bandBin r.cfg.fs b := by
  cases h
  show (vget (deriveUnits r.snap.par (resetUnits { s with prep := r.cfg })).peq.band b EqBand.reset).bin = _
  rw [deriveUnits_bin _ _ hb]
  simp

/-- Settles O50: accepted, PREPARE latches the configuration its check passed. -/
theorem binsInRange : Obligations.BinsInRange := by
  intro s t hidle hcfg hexec b hb
  rcases issue_cases hexec with ⟨hbusy, -⟩ | ⟨-, k, hk, -⟩ | ⟨-, -, u, hbody, rfl⟩
  · simp [hidle] at hbusy
  · simp [checkConfig, hcfg] at hk
  · rw [complete_peq, bodyPrepare_bin hbody hb]
    exact bandBin_inRange (cfgOk_fs hcfg) hb

end Sys2Proof.Machine
end

section
/-!
PROOFS. What a step answers: the step on each kind of event (R52, R64, R67), and that from a legal state it always
answers a next state (R49, R74; 93 section 3).
-/

namespace Sys2Proof.Machine

open Sys2Proof.Safety

/-! ## The step on each event -/

theorem deliver_ok {a : Access} {i : Instr} (decoded : decode a = .ok i) (s : State) : deliver a s = exec i s := by
  simp only [deliver, decoded]

theorem deliver_error {a : Access} {r : Reject} (rejected : decode a = .error r) (s : State) :
    deliver a s = .next (rejectAccess r a s) := by
  simp only [deliver, rejected]

theorem step_nothing {s : State} (h : s.inbox = []) : step s = sequencerStage s := by
  simp only [step, h]

theorem step_access {s : State} {a : Access} {rest : List Event} (h : s.inbox = .access a :: rest) :
    step s = deliver a { s with inbox := rest } := by
  simp only [step, h]

theorem step_sequencer {s : State} {rest : List Event} (h : s.inbox = .sequencer :: rest) :
    step s = sequencerStage { s with inbox := rest } := by
  simp only [step, h]

theorem step_hardReset {s : State} {rest : List Event} (h : s.inbox = .hardReset :: rest) :
    step s = .next (hardReset { s with inbox := rest }) := by
  simp only [step, h]

/-- The access presented is taken off the inbox again, which leaves the state it was presented to. -/
theorem step_withFetchWord (s : State) (nbits w : Nat) :
    step (s.withFetchWord nbits w) = deliver (tableAccess nbits w) s := rfl

theorem decodeTableWord_some {nbits w : Nat} {i : Instr} (h : decodeTableWord nbits w = some i) :
    decode (tableAccess nbits w) = .ok i := by
  unfold decodeTableWord at h
  split at h
  · rename_i j decoded
    cases h; exact decoded
  · cases h

/-- Settles O6: by the step on each event, and the decoder's answer on the access delivered. -/
theorem stepRunsDecoded : Obligations.StepRunsDecoded := by
  intro s rest
  refine ⟨fun a i pending decoded => ?_, fun a r pending rejected => ?_, step_sequencer, step_hardReset, step_nothing,
    fun nbits w i decoded => ?_⟩
  · rw [step_access pending, deliver_ok decoded]
  · rw [step_access pending, deliver_error rejected]
  · rw [step_withFetchWord, deliver_ok (decodeTableWord_some decoded)]

/-! ## No instruction stops a legal state -/

/-- A command that passes its checks on a legal configuration is within the map (R43, R49, R74). -/
theorem mapped_of_check {i : Instr} {s : State} (legal : s.prepared = true → cfgOk s.prep = true)
    (passed : commandCheck i s = none) (ns : Nat) (hi : blockLength i = some ns) :
    s.prep.channels.toNat ≤ Config.cMax ∧ ns ≤ Config.nMax := by
  rw [(blockLength_command hi).2, checkBlock_none] at passed
  obtain ⟨prepared, -, atMost⟩ := passed
  obtain ⟨-, maxblock, -, channels⟩ := cfgOk_bounds (legal prepared)
  exact ⟨channels, atMost.trans maxblock⟩

theorem issue_next {w : Word} {e : Option ErrKind} {b : Body} {s : State}
    (rule : s.run = none → e = none → ∃ u, b (running w s) (accept w s) = .next u) : ∃ t, issue w e b s = .next t := by
  cases idle : s.run with
  | some r => exact ⟨_, issue_busy idle⟩
  | none =>
    cases e with
    | some k => exact ⟨_, issue_refused idle⟩
    | none =>
      obtain ⟨u, hu⟩ := rule idle rfl
      exact ⟨_, issue_accepted idle hu⟩

theorem exec_command_next {i : Instr} {w : Word} {s : State} (legal : Legal s) (h : commandWord i = some w) :
    ∃ t, exec i s = .next t := by
  rw [exec_command h]
  exact issue_next fun _ passed => commandBody_next (mapped_of_check legal.prepared passed)

/-- `WR.CMD` refuses the word or accepts it (R74). -/
theorem execWrCmd_next (w : Word) (s : State) : ∃ t, execWrCmd w s = .next t := by
  unfold execWrCmd
  split
  · exact ⟨_, rfl⟩
  · split
    · exact ⟨_, rfl⟩
    · split <;> exact ⟨_, rfl⟩

/-- A bus operation answers a next state from every state. -/
theorem exec_bus_next {i : Instr} (h : commandWord i = none) (s : State) : ∃ t, exec i s = .next t := by
  cases i with
  | nop | prepare | resetAll | spaReset | spaProduce | firReset | firProcess | peqReset | peqProcess | wsReset
  | wsProcess | wsCurve | lmReset | lmAnalyzeIn | lmAnalyzeOut | lmApply | chainProcess => cases h
  | wrCmd w => exact execWrCmd_next w s
  | _ => exact ⟨_, rfl⟩

theorem deliver_next {s : State} (legal : Legal s) (a : Access) : ∃ t, deliver a s = .next t := by
  cases decoded : decode a with
  | error r => exact ⟨_, deliver_error decoded s⟩
  | ok i =>
    rw [deliver_ok decoded]
    cases word : commandWord i with
    | some w => exact exec_command_next legal word
    | none => exact exec_bus_next word s

/-! ## The sequencer's stages -/

theorem sequencerStage_idle {s : State} (h : s.run = none) : sequencerStage s = .next s := by
  simp only [sequencerStage, h]

theorem sequencerStage_worked {s : State} {r : Running} (h : s.run = some r) (worked : r.worked = true) :
    sequencerStage s = .next (complete s) := by
  simp only [sequencerStage, h, worked, if_true]

theorem sequencerStage_rule {s : State} {r : Running} {i : Instr} (h : s.run = some r) (pending : r.worked = false)
    (word : decodeCommand r.cur = .ok i) :
    sequencerStage s = andThen (commandBody i r s) fun t => .next (markWorked r t) := by
  simp only [sequencerStage, h, pending, word, Bool.false_eq_true, if_false]

theorem sequencerStage_unnamed {s : State} {r : Running} {e : Reject} (h : s.run = some r)
    (pending : r.worked = false) (word : decodeCommand r.cur = .error e) :
    sequencerStage s = .next (markWorked r s) := by
  simp only [sequencerStage, h, pending, word, Bool.false_eq_true, if_false]

/-- The rule of the running command stays within the map, because its checks passed at acceptance (R74; log 14). -/
theorem sequencerStage_next {s : State} (legal : Legal s) : ∃ t, sequencerStage s = .next t := by
  cases running : s.run with
  | none => exact ⟨s, sequencerStage_idle running⟩
  | some r =>
    cases pending : r.worked with
    | true => exact ⟨_, sequencerStage_worked running pending⟩
    | false =>
      obtain ⟨i, word, passed⟩ := (legal.run r running).accepted pending
      obtain ⟨u, hu⟩ := commandBody_next (r := r) (s := s)
        (mapped_of_check (s := { s with cfg := r.cfg }) legal.prepared passed)
      rw [sequencerStage_rule running pending word, hu]
      exact ⟨markWorked r u, rfl⟩

/-- Settles O12: by the event the step takes. -/
theorem legalStepsAreSafe : Obligations.LegalStepsAreSafe := by
  intro s legal
  unfold SafeStep
  match pending : s.inbox with
  | [] => rw [step_nothing pending]; exact sequencerStage_next legal
  | .access a :: rest => rw [step_access pending]; exact deliver_next (legal.takeEvent rest) a
  | .sequencer :: rest => rw [step_sequencer pending]; exact sequencerStage_next (legal.takeEvent rest)
  | .hardReset :: rest => exact ⟨_, step_hardReset pending⟩

end Sys2Proof.Machine
end

section
/-!
PROOFS. Refused accesses (R45, R46): what the decoder's ranges have to do with the masks of R66, and the error a
refused transaction latches.
-/

namespace Sys2Proof.Machine

open Sys2Proof.Safety

/-! ## Transactions -/

theorem aligned_iff (addr : BitVec 18) : addr.extractLsb' 0 2 = 0 ↔ addr.toNat % 4 = 0 := by
  rw [← BitVec.toNat_inj, BitVec.extractLsb'_toNat]
  simp

theorem toNat_key (t : Txn) : (BitVec.ofBool t.write ++ t.addr).toNat = t.key := by
  have := t.addr.isLt
  rw [BitVec.toNat_append, ← Nat.shiftLeft_add_eq_or_of_lt this]
  cases h : t.write <;> simp [Txn.key, h, writeKey]

theorem append_offset (addr : BitVec 18) : 0#14 ++ addr = addr.setWidth 32 := by
  apply BitVec.eq_of_toNat_eq
  have := addr.isLt
  rw [BitVec.toNat_append, BitVec.toNat_setWidth]
  simp
  omega

/-! ## The masks of R66 cover the decoder's ranges -/

/-- The aligned words of a range of `2 ^ m` words at a multiple of its size match one mask: every bit but those that
number the words. -/
theorem and_mask_of_range {k : BitVec 19} {m q : Nat} (aligned : k.toNat % 2 ^ 2 = 0)
    (range : k.toNat / 2 ^ (m + 2) = q) :
    k &&& ~~~BitVec.ofNat 19 (2 ^ 2 * (2 ^ m - 1)) = BitVec.ofNat 19 (2 ^ (m + 2) * q) := by
  apply BitVec.eq_of_getLsbD_eq
  intro j hj
  have low : ¬ j < 2 ∨ k.getLsbD j = false := by
    have := congrArg (fun x => x.testBit j) aligned
    simpa only [Nat.testBit_mod_two_pow, Nat.zero_testBit, Bool.and_eq_false_iff, decide_eq_false_iff_not,
      BitVec.testBit_toNat] using this
  have high (above : m + 2 ≤ j) : k.getLsbD j = q.testBit (j - (m + 2)) := by
    rw [← range, Nat.testBit_div_two_pow, Nat.sub_add_cancel above, BitVec.testBit_toNat]
  simp only [BitVec.getLsbD_and, BitVec.getLsbD_not, BitVec.getLsbD_ofNat, Nat.testBit_two_pow_mul,
    Nat.testBit_two_pow_sub_one, hj, decide_true, Bool.true_and]
  by_cases above : m + 2 ≤ j
  · have : ¬ j - 2 < m := by omega
    simp [above, high above, this]
  · by_cases word : 2 ≤ j
    · have : j - 2 < m := by omega
      simp [above, word, this]
    · rcases low with low | low
      · omega
      · simp [above, low]

/-- A row of the mask table is the range of a row of the decoder: `2 ^ m` words at a multiple of their size. -/
def Covers (row : MaskTable.Row 19) (r : BusRow) : Prop :=
  ∃ m ∈ [0, 3, 10, 13], r.count = 2 ^ m ∧ 2 ^ (m + 2) ∣ r.key ∧
    row.mask = ~~~BitVec.ofNat 19 (2 ^ 2 * (2 ^ m - 1)) ∧ row.pattern = BitVec.ofNat 19 r.key

/-- The 66 rows of the decoder, each with its row of the mask table (R66). -/
theorem busRow_covered : ∀ r ∈ busRows, ∃ row ∈ MaskTable.bus, Covers row r := by
  unfold Covers
  decide +kernel

theorem Covers.matches_of_holds {row : MaskTable.Row 19} {r : BusRow} {k : BitVec 19} (h : Covers row r)
    (aligned : k.toNat % 4 = 0) (holds : r.holds k.toNat = true) : k &&& row.mask = row.pattern := by
  obtain ⟨m, -, count, ⟨q, key⟩, mask, pattern⟩ := h
  simp only [BusRow.holds, count, key, Bool.and_eq_true, decide_eq_true_eq] at holds
  obtain ⟨low, high⟩ := holds
  have size : 4 * 2 ^ m = 2 ^ (m + 2) := by ring
  rw [size] at high
  rw [mask, pattern, key]
  apply and_mask_of_range aligned
  exact Nat.div_eq_of_lt_le (by rwa [Nat.mul_comm]) (by rwa [Nat.succ_mul, Nat.mul_comm q])

/-- What no mask of R66 matches, no row of the decoder holds. -/
theorem decodeKey_unmatched {t : Txn} (aligned : t.addr.toNat % 4 = 0)
    (unmatched : MaskTable.find MaskTable.bus (BitVec.ofBool t.write ++ t.addr) t.wdata = none) :
    decodeKey t.key t.wdata = .error .badAddr := by
  unfold decodeKey
  split
  · rename_i r found
    have holds : r.holds t.key = true := List.find?_some (p := fun r => BusRow.holds r t.key) found
    obtain ⟨row, listed, covers⟩ := busRow_covered r (List.mem_of_find?_eq_some found)
    have alignedKey : t.key % 4 = 0 := by
      unfold Txn.key writeKey
      split <;> omega
    rw [← toNat_key] at holds alignedKey
    have same := covers.matches_of_holds alignedKey holds
    rw [MaskTable.find, Option.map_eq_none_iff, List.find?_eq_none] at unmatched
    exact absurd (beq_iff_eq.2 same) (unmatched row listed)
  · rfl

/-! ## The decoder's answer on a refused transaction -/

theorem decodeTxn_badAccess {t : Txn} (h : t.size ≠ 4 ∨ t.addr.toNat % 4 ≠ 0) : decodeTxn t = .error .badAccess :=
  if_pos h

theorem decodeTxn_badAddr {t : Txn} (size : t.size = 4) (aligned : t.addr.toNat % 4 = 0)
    (unmatched : MaskTable.find MaskTable.bus (BitVec.ofBool t.write ++ t.addr) t.wdata = none) :
    decodeTxn t = .error .badAddr := by
  rw [decodeTxn, if_neg (by simp [size, aligned]), decodeKey_unmatched aligned unmatched]

/-- A refused access performs nothing: a read returns 0, a write changes nothing (R45, R46). -/
theorem refuse_eq (write : Bool) (k : ErrKind) (info : Word) (s : State) :
    refuse write k info s = raise k info { s with rdata := if write then s.rdata else 0 } := by
  cases write <;> rfl

/-- Settles O16: by what the decoder answers on the transaction. -/
theorem refusedAccesses : Obligations.RefusedAccesses := by
  refine ⟨fun t s rest pending => ⟨fun bad => ?_, fun size aligned unmatched => ?_⟩, fun s => rfl⟩
  · have rejected : decode (.bus t) = .error .badAccess := decodeTxn_badAccess (bad.imp_right (mt (aligned_iff _).2))
    rw [step_access pending, deliver_error rejected, append_offset]
    exact congrArg Host.Outcome.next (refuse_eq ..)
  · have rejected : decode (.bus t) = .error .badAddr := decodeTxn_badAddr size ((aligned_iff _).1 aligned) unmatched
    rw [step_access pending, deliver_error rejected, append_offset]
    exact congrArg Host.Outcome.next (refuse_eq ..)

end Sys2Proof.Machine
end

section
/-!
PROOFS. What a read leaves (R48), and the RAM windows: refused while a command runs (R53, R164 to R167), a word in four
bytes otherwise (R44).
-/

namespace Sys2Proof.Machine

open Sys2Proof.Safety

/-! ## The windows -/

theorem windowRead_idle {s : State} (idle : s.run = none) (addr : Nat) (w : Word) :
    windowRead addr w s = give w s := by
  simp [windowRead, busy, idle]

theorem windowRead_busy {s : State} (running : s.run.isSome = true) (addr : Nat) (w : Word) :
    windowRead addr w s = raise .busyRam (BitVec.ofNat 32 addr) (give 0 s) :=
  if_pos running

theorem execWrSample_idle {s : State} (idle : s.run = none) (c i : Nat) (w : Word) :
    execWrSample c i w s = .next { s with mem := s.mem.writeWord (saddr c i) w } := by
  simp [execWrSample, busy, idle]

theorem execWrSample_busy {s : State} (running : s.run.isSome = true) (c i : Nat) (w : Word) :
    execWrSample c i w s = .next (raise .busyRam (BitVec.ofNat 32 (saddr c i)) s) :=
  congrArg Host.Outcome.next (if_pos running)

/-- Settles O17: the four windows are refused alike. -/
theorem busyRamRefused : Obligations.BusyRamRefused := by
  intro s r h
  have running : s.run.isSome = true := by simp [h]
  exact ⟨fun k => congrArg Host.Outcome.next (windowRead_busy running _ _),
    fun k => congrArg Host.Outcome.next (windowRead_busy running _ _),
    fun c i => congrArg Host.Outcome.next (windowRead_busy running _ _),
    fun c i w => execWrSample_busy running c i w⟩

/-! ## The bytes of a word (R44) -/

theorem byteOf_readWord (m : Memory) (a : Nat) {j : Nat} (hj : j < 4) : byteOf (m.readWord a) j = m.read (a + j) := by
  apply BitVec.eq_of_getLsbD_eq
  intro b hb
  simp only [byteOf, Memory.readWord, BitVec.getLsbD_extractLsb', BitVec.getLsbD_append, hb, decide_true,
    Bool.true_and]
  match j with
  | 0 => simp [hb]
  | 1 => simp [show ¬ 8 + b < 8 by omega, hb]
  | 2 => simp [show ¬ 16 + b < 8 by omega, show ¬ 16 + b - 8 < 8 by omega, show 16 + b - 8 - 8 = b by omega, hb]
  | 3 => simp [show ¬ 24 + b < 8 by omega, show ¬ 24 + b - 8 < 8 by omega, show ¬ 24 + b - 8 - 8 < 8 by omega,
      show 24 + b - 8 - 8 - 8 = b by omega, hb]

theorem execRdSample_idle {s : State} {c i : Nat} {w : Word} (idle : s.run = none) (word : sampleAt s c i = w) :
    execRdSample c i s = .next (give w s) := by
  rw [execRdSample, windowRead_idle idle, word]

/-- Settles O38: idle, a window gives its word, and a sample's word is its four bytes. -/
theorem windowReadsIdle : Obligations.WindowReadsIdle := by
  intro s idle
  refine ⟨fun k _ => congrArg Host.Outcome.next (windowRead_idle idle _ _),
    fun k _ => congrArg Host.Outcome.next (windowRead_idle idle _ _),
    fun c i _ _ => ⟨sampleAt s c i, execRdSample_idle idle rfl, fun j hj => byteOf_readWord s.mem (saddr c i) hj⟩⟩

/-- Settles O39: by what a stored word reads as, byte by byte and whole. -/
theorem sampleWriteIdle : Obligations.SampleWriteIdle := by
  intro s c i w idle _ _
  refine ⟨_, execWrSample_idle idle c i w, rfl, fun j hj => ?_, fun a apart => ?_, ?_⟩
  · show (s.mem.writeWord (saddr c i) w).read (saddr c i + j) = byteOf w j
    rw [Memory.read_writeWord, if_pos (by omega), Nat.add_sub_cancel_left]
  · show (s.mem.writeWord (saddr c i) w).read a = s.mem.read a
    rw [Memory.read_writeWord, if_neg (by omega)]
  · exact execRdSample_idle (s := { s with mem := s.mem.writeWord (saddr c i) w }) idle
      (Memory.readWord_writeWord_same s.mem (saddr c i) w)

/-! ## Reads -/

/-- What a read can leave: a word returned, a free word returned, or a window's refusal while a command runs. -/
inductive ReadEffect (s : State) : State → Prop
  | given (w : Word) : ReadEffect s (give w s)
  | free : ReadEffect s (giveFree s)
  | refused (running : s.run.isSome = true) (addr : Word) : ReadEffect s (raise .busyRam addr (give 0 s))

namespace ReadEffect

theorem monitorRead (w : Word) (s : State) : ReadEffect s (monitorRead w s) := by
  unfold Machine.monitorRead
  split
  · exact .free
  · exact .given w

theorem windowRead (addr : Nat) (w : Word) (s : State) : ReadEffect s (windowRead addr w s) := by
  cases running : s.run with
  | none => rw [windowRead_idle running]; exact .given w
  | some r =>
    have running : s.run.isSome = true := by simp [running]
    rw [windowRead_busy running]
    exact .refused running _

/-- A read by its kind (R48, R53): the control and parameter registers and EQ_TARGET always give their word. -/
theorem exec {i : Instr} {x : Txn} {s u : State} (word : encode i = .bus x) (read : x.write = false)
    (h : exec i s = .next u) : ReadEffect s u := by
  cases i with
  | nop | prepare | resetAll | spaReset | spaProduce | firReset | firProcess | peqReset | peqProcess | wsReset
  | wsProcess | wsCurve | lmReset | lmAnalyzeIn | lmAnalyzeOut | lmApply | chainProcess => cases word
  | wrCmd | wrStatus | wrIrqEn | wrArg | wrCfgFs | wrCfgMaxblock | wrCfgChannels | wrInGainDb | wrOutGainDb | wrDriveDb
  | wrMixPct | wrAlgorithm | wrSolo | wrLowcutHz | wrHighcutHz | wrFilterEn | wrEqEn | wrEqCurve | wrEqStrengthPct
  | wrEqReactionMs | wrSample => cases word; cases read
  | rdWsInRms | rdWsInPeak | rdWsOutRms | rdWsOutPeak | rdEqGain | rdEqSpectrum | rdLmCompDb | rdLmInLoud
  | rdLmOutLoud | rdLmTarget | rdLmGainLin | rdSpaWpos | rdSpaCount => cases h; exact monitorRead _ s
  | rdSpec | rdBinfreq | rdSample => cases h; exact windowRead _ _ s
  | _ => cases h; exact .given _

end ReadEffect

/-- Settles O40: by the effects of a read. -/
theorem readsChangeNothing : Obligations.ReadsChangeNothing := by
  intro i x s u word read h
  cases ReadEffect.exec word read h with
  | given | free => exact .inl rfl
  | refused running addr => exact .inr ⟨running, addr, rfl⟩

end Sys2Proof.Machine
end

section
/-!
PROOFS. What the host writes to the parameter registers, `ARG`, `CFG_*` and `IRQ_EN` does not reach the running command
(R54, R74, R193; log 8): no command's rule reads those registers of the state, so each rule commutes with writing them.
-/

namespace Sys2Proof.Machine

open Sys2Proof.Safety

/-! ## The host's registers -/

/-- Values for the registers the host may write while a command runs. -/
structure HostRegs where
  par : Params
  arg : Word
  cfg : Cfg
  irqEn : Word

/-- The registers written. -/
def HostRegs.write (h : HostRegs) (s : State) : State :=
  { s with par := h.par, arg := h.arg, cfg := h.cfg, irqEn := h.irqEn }

/-- The writes do not reach `f`: writing before it and writing after it leave the same state. -/
def HostRegs.Commutes (h : HostRegs) (f : State → State) : Prop := ∀ s, f (h.write s) = h.write (f s)

section

variable {h : HostRegs}

namespace HostRegs.Commutes

theorem comp {f g : State → State} (hf : h.Commutes f) (hg : h.Commutes g) : h.Commutes (fun s => g (f s)) :=
  fun s => (congrArg g (hf s)).trans (hg (f s))

/-- A loop commutes where each of its passes does. -/
theorem each {f : Nat → State → State} (pass : ∀ c, h.Commutes (f c)) {n : Nat} {s t : State} (start : t = h.write s) :
    each n f t = h.write (each n f s) := by
  subst start
  induction n with
  | zero => rfl
  | succ n ih => rw [each_succ, each_succ, ih, pass n]

/-! ## The steps of the rules -/

theorem noteAll (ns : Nat) : h.Commutes (noteAll ns) := fun _ => each (fun _ _ => by rfl) rfl

theorem spaFeed (ns : Nat) : h.Commutes (spaFeed ns) := by
  intro s
  unfold Machine.spaFeed
  rw [noteAll ns s]
  rfl

theorem freeSamples (d ns : Nat) : h.Commutes (freeSamples d ns) := fun _ => each (fun _ _ => by rfl) rfl

theorem wsProcess (par : Params) (ns : Nat) : h.Commutes (wsProcess par ns) := fun _ => each (fun _ _ => by rfl) rfl

theorem freeWs (par : Params) (d : Nat) : h.Commutes (freeWs par d) := fun _ => each (fun _ _ => by rfl) rfl

theorem firProcess (par : Params) (ns inst : Nat) : h.Commutes (firProcess par ns inst) := by
  intro s
  simp only [Machine.firProcess, apply_ite h.write]
  exact ite_congr rfl (fun _ => rfl) fun _ => ite_congr rfl (fun _ => rfl) fun _ => each (fun _ _ => by rfl) rfl

theorem peqRun (par : Params) (ns : Nat) : h.Commutes (peqRun par ns) := by
  intro s
  unfold Machine.peqRun
  rw [spaFeed ns s]
  exact each (fun _ _ => by rfl) rfl

theorem peqProcess (par : Params) (ns : Nat) : h.Commutes (peqProcess par ns) := by
  intro s
  unfold Machine.peqProcess
  split
  · rfl
  · exact peqRun par ns s

theorem lmAnalyzeIn (ns : Nat) : h.Commutes (lmAnalyzeIn ns) := by
  intro s
  unfold Machine.lmAnalyzeIn
  rw [noteAll ns s]
  rfl

theorem lmAnalyzeOut (ns : Nat) : h.Commutes (lmAnalyzeOut ns) := by
  intro s
  unfold Machine.lmAnalyzeOut
  rw [noteAll ns s]
  rfl

theorem lmApply (ns : Nat) : h.Commutes (lmApply ns) := fun _ => each (fun _ _ => by rfl) rfl

theorem gain (gdb : F32) (ns : Nat) : h.Commutes (gain gdb ns) := fun _ => each (fun _ _ => by rfl) rfl

/-- The chain is its nine steps in order (R157). -/
theorem chainSteps (par : Params) (ns : Nat) : h.Commutes (chainSteps par ns) :=
  (lmAnalyzeIn ns).comp <| (gain par.inGainDb ns).comp <| (firProcess par ns 0).comp <| (wsProcess par ns).comp <|
    (peqProcess par ns).comp <| (firProcess par ns 1).comp <| (gain par.outGainDb ns).comp <|
    (lmAnalyzeOut ns).comp <| lmApply ns

end HostRegs.Commutes

/-! ## The choice of free values -/

theorem freeFir_write (par : Params) (inst d : Nat) (s t : State) :
    freeFir par inst d (h.write s) (h.write t) = h.write (freeFir par inst d s t) := by
  unfold freeFir
  split <;> rfl

theorem freePeq_write (par : Params) (ns d : Nat) (s t : State) :
    freePeq par ns d (h.write s) (h.write t) = h.write (freePeq par ns d s t) := by
  unfold freePeq
  split <;> rfl

theorem freeChain_write (par : Params) (ns d : Nat) (s t : State) :
    freeChain par ns d (h.write s) (h.write t) = h.write (freeChain par ns d s t) := by
  unfold freeChain
  have loudness : freeLmIn d (h.write s) (freeLmOut d (h.write s) (h.write t)) =
      h.write (freeLmIn d s (freeLmOut d s t)) := rfl
  simp only [loudness, freeFir_write, HostRegs.Commutes.freeWs par d _, freePeq_write]
  exact HostRegs.Commutes.freeSamples d ns (freeLmApply d _)

theorem settle_write {f : Nat → State → State → State} {s t : State}
    (free : ∀ d, f d (h.write s) (h.write t) = h.write (f d s t)) :
    settle f (h.write s) (h.write t) = h.write (settle f s t) := by
  cases read : t.nonf with
  | false => rw [settle_finite (f := f) (s := h.write s) (t := h.write t) read, settle_finite read]
  | true =>
    rw [settle_nonfinite (f := f) (s := h.write s) (t := h.write t) read, settle_nonfinite read]
    show { f s.draws (h.write s) (h.write t) with draws := s.draws + 1 } = _
    rw [free]
    rfl

/-! ## The rules -/

theorem onSamples_write (ns : Nat) (s t : State) :
    onSamples ns (h.write s) (h.write t) = andThen (onSamples ns s t) (fun u => .next (h.write u)) := by
  unfold onSamples
  show (if s.prep.channels.toNat ≤ Config.cMax ∧ ns ≤ Config.nMax then _ else _) = _
  split <;> rfl

/-- A block command's rule: its steps, then the choice of free values. -/
theorem block_write {ns : Nat} {g : State → State} {f : Nat → State → State → State} (steps : h.Commutes g)
    (free : ∀ d s t, f d (h.write s) (h.write t) = h.write (f d s t)) (s : State) :
    onSamples ns (h.write s) (settle f (h.write s) (g (h.write s))) =
      andThen (onSamples ns s (settle f s (g s))) (fun u => .next (h.write u)) := by
  rw [steps s, settle_write fun d => free d s (g s), onSamples_write]

open HostRegs in
/-- The rules read the snapshot and the configuration taken at acceptance (R74; log 8), never the registers. -/
theorem commandBody_write (i : Instr) (r : Running) (s : State) :
    commandBody i r (h.write s) = andThen (commandBody i r s) (fun u => .next (h.write u)) := by
  cases i with
  | spaProduce ns => exact block_write (Commutes.spaFeed ns) (fun _ _ _ => by rfl) s
  | firProcess inst ns =>
    refine block_write (Commutes.firProcess _ ns inst) (fun d s t => ?_) s
    rw [freeFir_write, Commutes.freeSamples]
  | peqProcess ns =>
    refine block_write (Commutes.peqProcess _ ns) (fun d s t => ?_) s
    rw [freePeq_write, Commutes.freeSamples]
  | wsProcess ns =>
    refine block_write (Commutes.wsProcess _ ns) (fun d _ t => ?_) s
    rw [Commutes.freeWs, Commutes.freeSamples]
  | lmAnalyzeIn ns => exact block_write (Commutes.lmAnalyzeIn ns) (fun _ _ _ => by rfl) s
  | lmAnalyzeOut ns => exact block_write (Commutes.lmAnalyzeOut ns) (fun _ _ _ => by rfl) s
  | lmApply ns => exact block_write (Commutes.lmApply ns) (fun d _ t => Commutes.freeSamples d ns (freeLmApply d t)) s
  | chainProcess ns => exact block_write (Commutes.chainSteps _ ns) (freeChain_write _ ns) s
  | wsCurve =>
    exact congrArg Host.Outcome.next (settle_write (t := { note [r.snap.arg] s with result := wsCurveValue r.snap })
      fun _ => rfl)
  | _ => rfl

/-! ## The sequencer's stage -/

theorem sequencerStage_write {s : State} {r : Running} (running : s.run = some r) :
    sequencerStage (h.write s) = andThen (sequencerStage s) (fun t => .next (h.write t)) := by
  have runningAfter : (h.write s).run = some r := running
  cases pending : r.worked with
  | true => rw [sequencerStage_worked runningAfter pending, sequencerStage_worked running pending]; rfl
  | false =>
    cases word : decodeCommand r.cur with
    | error e => rw [sequencerStage_unnamed runningAfter pending word, sequencerStage_unnamed running pending word]; rfl
    | ok i =>
      rw [sequencerStage_rule runningAfter pending word, sequencerStage_rule running pending word, commandBody_write]
      cases commandBody i r s <;> rfl

end

/-- Settles O34: each stage of the sequencer commutes with the writes. -/
theorem writesDoNotReachRunningCommand : Obligations.WritesDoNotReachRunningCommand :=
  fun _ _ p a c q running => sequencerStage_write (h := ⟨p, a, c, q⟩) running

end Sys2Proof.Machine
end

section
/-!
PROOFS. The encoding (R59 to R66): a table whose rows exclude each other answers every row it lists, so the decoder
answers an instruction on its own access; and the decoder's fields and ranges against the table of masks.
-/

namespace Sys2Proof.Machine

open Sys2Proof.Safety

/-! ## Searching a table -/

/-- Where no two rows hold together, the search answers the row that holds. -/
theorem find?_of_pairwise {α : Type} {p : α → Bool} {l : List α} {a : α}
    (apart : l.Pairwise fun x y => ¬(p x = true ∧ p y = true)) (listed : a ∈ l) (holds : p a = true) :
    l.find? p = some a := by
  induction l with
  | nil => cases listed
  | cons x xs ih =>
    obtain ⟨first, rest⟩ := List.pairwise_cons.1 apart
    rcases List.mem_cons.1 listed with rfl | later
    · exact List.find?_cons_of_pos holds
    · rw [List.find?_cons_of_neg fun hx => first a later ⟨hx, holds⟩]
      exact ih rest later

/-- Two tables whose rows match the same keys and build the same answer them alike. -/
theorem find?_map_congr {α β γ : Type} {p : α → Bool} {q : β → Bool} {f : α → γ} {g : β → γ} {as : List α}
    {bs : List β} (same : List.Forall₂ (fun a b => p a = q b ∧ (p a = true → f a = g b)) as bs) :
    (as.find? p).map f = (bs.find? q).map g := by
  induction same with
  | nil => rfl
  | @cons a b _ _ row _ ih =>
    obtain ⟨holds, builds⟩ := row
    cases pa : p a with
    | true => rw [List.find?_cons_of_pos pa, List.find?_cons_of_pos (holds ▸ pa), Option.map_some, Option.map_some,
        builds pa]
    | false => rwa [List.find?_cons_of_neg (by simp [pa]), List.find?_cons_of_neg (by simp [← holds, pa])]

/-! ## The fields of a command word (R59) -/

theorem fieldOp_eq (w : Word) : fieldOp w = (w.extractLsb' 0 8).toNat := by
  simp [fieldOp, BitVec.extractLsb'_toNat]

theorem fieldInst_eq (w : Word) : fieldInst w = (w.extractLsb' 8 1).toNat := by
  simp [fieldInst, BitVec.extractLsb'_toNat, Nat.shiftRight_eq_div_pow]

theorem fieldRsv_eq (w : Word) : fieldRsv w = (w.extractLsb' 9 7).toNat := by
  simp [fieldRsv, BitVec.extractLsb'_toNat, Nat.shiftRight_eq_div_pow]

theorem fieldNs_eq (w : Word) : fieldNs w = (w.extractLsb' 16 16).toNat := by
  have := w.isLt
  simp only [fieldNs, BitVec.extractLsb'_toNat, Nat.shiftRight_eq_div_pow]
  omega

/-- A word is its four fields. -/
theorem word_eq_iff (x y : Word) : x = y ↔
    fieldOp x = fieldOp y ∧ fieldInst x = fieldInst y ∧ fieldRsv x = fieldRsv y ∧ fieldNs x = fieldNs y := by
  rw [← BitVec.toNat_inj]
  have := x.isLt
  have := y.isLt
  simp only [fieldOp, fieldInst, fieldRsv, fieldNs]
  omega

/-- A word put together from fields in their ranges has those fields. -/
theorem fields_cmdWord {op inst ns : Nat} (hop : op < 2 ^ 8) (hinst : inst < 2) (hns : ns < 2 ^ 16) :
    fieldOp (cmdWord op inst ns) = op ∧ fieldInst (cmdWord op inst ns) = inst ∧
      fieldRsv (cmdWord op inst ns) = 0 ∧ fieldNs (cmdWord op inst ns) = ns := by
  simp only [fieldOp, fieldInst, fieldRsv, fieldNs, cmdWord, BitVec.toNat_ofNat]
  omega

/-! ## A row of the command map (R65) -/

theorem cmdRow_op_lt : ∀ row ∈ cmdRows, row.op < 2 ^ 8 := by decide

theorem cmdRow_holds_iff {row : CmdRow} {w : Word} : row.holds w = true ↔
    row.op = fieldOp w ∧ fieldRsv w = 0 ∧ (row.format.hasInst = true ∨ fieldInst w = 0) ∧
      (row.format.hasNs = true ∨ fieldNs w = 0) := by
  simp only [CmdRow.holds, Bool.and_eq_true, Bool.or_eq_true, beq_iff_eq, and_assoc]

/-- The opcodes differ, so no word matches two rows. -/
theorem cmdRows_apart (w : Word) : cmdRows.Pairwise fun a b => ¬(a.holds w = true ∧ b.holds w = true) := by
  have ops : cmdRows.Pairwise fun a b => a.op ≠ b.op := by decide
  exact ops.imp fun differ ⟨ha, hb⟩ => differ ((cmdRow_holds_iff.1 ha).1.trans (cmdRow_holds_iff.1 hb).1.symm)

theorem decodeCommand_of_holds {row : CmdRow} {w : Word} (listed : row ∈ cmdRows) (holds : row.holds w = true) :
    decodeCommand w = .ok (row.build (fieldInst w) (fieldNs w)) := by
  have found : cmdRows.find? (fun r => r.holds w) = some row := find?_of_pairwise (cmdRows_apart w) listed holds
  simp only [decodeCommand, found]

/-- A word that no row holds is answered BAD_CMD (R67). -/
theorem decodeCommand_unnamed {w : Word} (unnamed : ∀ row ∈ cmdRows, row.holds w ≠ true) :
    decodeCommand w = .error .badCmd := by
  have none : cmdRows.find? (fun r => r.holds w) = none := List.find?_eq_none.2 unnamed
  simp only [decodeCommand, none]

/-- A row reads only the fields its format uses. -/
theorem cmdRow_build_used (inst ns : Nat) : ∀ row ∈ cmdRows,
    row.build (if row.format.hasInst then inst else 0) (if row.format.hasNs then ns else 0) = row.build inst ns := by
  simp [cmdRows, Format.hasInst, Format.hasNs]

/-- The word of the command a row builds decodes to that command. -/
theorem decodeCommand_build {row : CmdRow} {inst ns : Nat} {w : Word} (listed : row ∈ cmdRows) (hinst : inst < 2)
    (hns : ns < 2 ^ 16) (word : commandWord (row.build inst ns) = some w) :
    decodeCommand w = .ok (row.build inst ns) := by
  rw [commandWord_build inst ns row listed, Option.some.injEq] at word
  obtain ⟨op, inst', rsv, ns'⟩ := fields_cmdWord (cmdRow_op_lt row listed)
    (inst := if row.format.hasInst then inst else 0) (ns := if row.format.hasNs then ns else 0)
    (by split <;> omega) (by split <;> omega)
  rw [word] at op inst' rsv ns'
  have holds : row.holds w = true := by
    rw [cmdRow_holds_iff, op, inst', rsv, ns']
    exact ⟨rfl, rfl, by cases row.format.hasInst <;> simp, by cases row.format.hasNs <;> simp⟩
  rw [decodeCommand_of_holds listed holds, inst', ns', cmdRow_build_used inst ns row listed]

/-- Every well-formed command is built by a row: the map lists the commands in the order of `Instr`. -/
theorem exists_cmdRow {i : Instr} {w : Word} (wf : i.wellFormed = true) (word : commandWord i = some w) :
    ∃ row ∈ cmdRows, ∃ inst ns, inst < 2 ∧ ns < 2 ^ 16 ∧ row.build inst ns = i := by
  suffices ∃ row, cmdRows[i.ctorIdx]? = some row ∧ ∃ inst ns, inst < 2 ∧ ns < 2 ^ 16 ∧ row.build inst ns = i by
    obtain ⟨row, place, built⟩ := this
    exact ⟨row, List.mem_of_getElem? place, built⟩
  cases i with
  | nop | prepare | resetAll | spaReset | peqReset | wsReset | wsCurve | lmReset =>
    exact ⟨_, rfl, 0, 0, by decide, by decide, rfl⟩
  | spaProduce ns | peqProcess ns | wsProcess ns | lmAnalyzeIn ns | lmAnalyzeOut ns | lmApply ns | chainProcess ns =>
    exact ⟨_, rfl, 0, ns, by decide, of_decide_eq_true wf, rfl⟩
  | firReset inst => exact ⟨_, rfl, inst, 0, of_decide_eq_true wf, by decide, rfl⟩
  | firProcess inst ns =>
    simp only [Instr.wellFormed, Bool.and_eq_true, decide_eq_true_eq] at wf
    exact ⟨_, rfl, inst, ns, wf.1, wf.2, rfl⟩
  | _ => cases word

/-- A well-formed command decodes from its own word. -/
theorem decodeCommand_commandWord {i : Instr} {w : Word} (wf : i.wellFormed = true) (word : commandWord i = some w) :
    decodeCommand w = .ok i := by
  obtain ⟨row, listed, inst, ns, hinst, hns, rfl⟩ := exists_cmdRow wf word
  exact decodeCommand_build listed hinst hns word

theorem encode_command {i : Instr} {w : Word} (word : commandWord i = some w) : encode i = .command w := by
  unfold commandWord at word
  split at word
  · rename_i encoded
    rw [encoded, Option.some.inj word]
  · cases word

/-! ## A row of the bus map (R66) -/

theorem busRow_holds_iff {row : BusRow} {k : Nat} : row.holds k = true ↔ row.key ≤ k ∧ k < row.key + 4 * row.count := by
  simp only [BusRow.holds, Bool.and_eq_true, decide_eq_true_eq]

/-- The ranges do not overlap, so no key falls on two rows. -/
theorem busRows_apart (k : Nat) : busRows.Pairwise fun a b => ¬(a.holds k = true ∧ b.holds k = true) := by
  have ranges : busRows.Pairwise fun a b => a.key + 4 * a.count ≤ b.key ∨ b.key + 4 * b.count ≤ a.key := by
    decide +kernel
  refine ranges.imp fun apart ⟨ha, hb⟩ => ?_
  rw [busRow_holds_iff] at ha hb
  omega

theorem decodeKey_of_holds {row : BusRow} {k : Nat} (w : Word) (listed : row ∈ busRows) (holds : row.holds k = true) :
    decodeKey k w = .ok (row.build ((k - row.key) / 4) w) := by
  have found : busRows.find? (fun r => r.holds k) = some row := find?_of_pairwise (busRows_apart k) listed holds
  simp only [decodeKey, found]

theorem decode_readAt {a : Nat} (range : a < writeKey) (aligned : a % 4 = 0) : decode (readAt a) = decodeKey a 0 := by
  have offset : (BitVec.ofNat 18 a).toNat = a := Nat.mod_eq_of_lt range
  simp only [decode, readAt, decodeTxn, Txn.key, offset, aligned]
  simp

theorem decode_writeAt {a : Nat} (w : Word) (range : a < writeKey) (aligned : a % 4 = 0) :
    decode (writeAt a w) = decodeKey (writeKey + a) w := by
  have offset : (BitVec.ofNat 18 a).toNat = a := Nat.mod_eq_of_lt range
  simp only [decode, writeAt, decodeTxn, Txn.key, offset, aligned]
  simp

/-- The rows are aligned and lie among the keys of reads or among those of writes (R64). -/
theorem busRow_range : ∀ row ∈ busRows, row.key % 4 = 0 ∧
    (row.key + 4 * row.count ≤ writeKey ∨ writeKey ≤ row.key ∧ row.key + 4 * row.count ≤ 2 * writeKey) := by
  decide +kernel

/-- The access that presents word `j` of a row (R64). -/
def busAccess (row : BusRow) (j : Nat) (w : Word) : Access :=
  if row.key < writeKey then readAt (row.key + 4 * j) else writeAt (row.key - writeKey + 4 * j) w

/-- The access of word `j` decodes to what the row builds there; a read carries no data. -/
theorem decode_busAccess {row : BusRow} {j : Nat} {w : Word} (listed : row ∈ busRows) (hj : j < row.count)
    (noData : row.key < writeKey → w = 0) : decode (busAccess row j w) = .ok (row.build j w) := by
  obtain ⟨aligned, range⟩ := busRow_range row listed
  have key : decodeKey (row.key + 4 * j) w = .ok (row.build j w) := by
    rw [decodeKey_of_holds w listed (busRow_holds_iff.2 (by omega)), Nat.add_sub_cancel_left,
      Nat.mul_div_cancel_left j (by decide)]
  have keys : writeKey % 4 = 0 := by decide
  unfold busAccess
  split
  · rename_i read
    rw [decode_readAt (by omega) (by omega), ← noData read, key]
  · rw [decode_writeAt w (by omega) (by omega), ← key]
    congr 1
    omega

/-- The encoder presents what a row builds at word `j` by that word's access. -/
theorem encode_busRow : ∀ row ∈ busRows, ∀ j, j < row.count → ∀ w, encode (row.build j w) = busAccess row j w := by
  have sample (j : Nat) : saddr (j / 4096) (j % 4096) = 0x10000 + 4 * j := by
    unfold saddr
    omega
  simp only [busRows, ctlReadRows, ctlWriteRows, paramWriteRows, paramReadRows, monitorRows, windowRows,
    List.forall_mem_append, List.forall_mem_cons, List.not_mem_nil, false_implies, implies_true, and_true,
    Nat.lt_one_iff, forall_eq, encode, sample]
  and_intros <;> intros <;> rfl

/-- Where the word of a sample stands in its window (R14). -/
theorem sampleWord_eq {c k : Nat} (wf : (decide (c < Config.cMax) && decide (k < Config.nMax)) = true) :
    4096 * c + k < Config.cMax * 4096 ∧ (4096 * c + k) / 4096 = c ∧ (4096 * c + k) % 4096 = k := by
  obtain ⟨hc, hk⟩ := Bool.and_eq_true_iff.1 wf
  have channel : c < Config.cMax := of_decide_eq_true hc
  have index : k < Config.nMax := of_decide_eq_true hk
  simp only [Config.cMax, Config.nMax] at *
  omega

/-- Every well-formed bus operation is built by a row: the map lists the operations in the order of `Instr`, after the
17 commands. -/
theorem exists_busRow {i : Instr} (wf : i.wellFormed = true) (bus : commandWord i = none) :
    ∃ row ∈ busRows, ∃ j w, j < row.count ∧ (row.key < writeKey → w = 0) ∧ row.build j w = i := by
  suffices ∃ row, busRows[i.ctorIdx - 17]? = some row ∧
      ∃ j w, j < row.count ∧ (row.key < writeKey → w = 0) ∧ row.build j w = i by
    obtain ⟨row, place, built⟩ := this
    exact ⟨row, List.mem_of_getElem? place, built⟩
  cases i with
  | nop | prepare | resetAll | spaReset | spaProduce | firReset | firProcess | peqReset | peqProcess | wsReset
  | wsProcess | wsCurve | lmReset | lmAnalyzeIn | lmAnalyzeOut | lmApply | chainProcess => cases bus
  | wrCmd w | wrStatus w | wrIrqEn w | wrArg w | wrCfgFs w | wrCfgMaxblock w | wrCfgChannels w | wrInGainDb w
  | wrOutGainDb w | wrDriveDb w | wrMixPct w | wrAlgorithm w | wrSolo w | wrLowcutHz w | wrHighcutHz w
  | wrFilterEn w | wrEqEn w | wrEqCurve w | wrEqStrengthPct w | wrEqReactionMs w =>
    exact ⟨_, rfl, 0, w, Nat.one_pos, fun read => absurd read (by decide), rfl⟩
  | rdWsInRms j | rdWsInPeak j | rdWsOutRms j | rdWsOutPeak j | rdEqGain j | rdEqTarget j | rdEqSpectrum j | rdSpec j
  | rdBinfreq j => exact ⟨_, rfl, j, 0, of_decide_eq_true wf, fun _ => rfl, rfl⟩
  | rdSample c k =>
    obtain ⟨inside, hc, hk⟩ := sampleWord_eq wf
    exact ⟨_, rfl, 4096 * c + k, 0, inside, fun _ => rfl, congrArg₂ Instr.rdSample hc hk⟩
  | wrSample c k w =>
    obtain ⟨inside, hc, hk⟩ := sampleWord_eq wf
    exact ⟨_, rfl, 4096 * c + k, w, inside, fun read => absurd read (by decide),
      congrArg₂ (Instr.wrSample · · w) hc hk⟩
  | _ => exact ⟨_, rfl, 0, 0, Nat.one_pos, fun _ => rfl, rfl⟩

/-- Settles O1: a row of the maps builds the instruction, and the access it is presented by falls on that row alone. -/
theorem decodeEncode : Obligations.DecodeEncode := by
  intro i wf
  cases word : commandWord i with
  | some w =>
    rw [encode_command word]
    exact decodeCommand_commandWord wf word
  | none =>
    obtain ⟨row, listed, j, w, hj, noData, rfl⟩ := exists_busRow wf word
    rw [encode_busRow row listed j hj w, decode_busAccess listed hj noData]

/-- Settles O5: each word or key is the access of the instruction named (O1), and the others no row answers. -/
theorem wordsOfTheSpec : Obligations.WordsOfTheSpec :=
  ⟨decodeEncode .prepare rfl, decodeEncode (.spaProduce 512) rfl, decodeEncode (.firReset 1) rfl,
    decodeEncode (.firProcess 1 512) rfl, decodeEncode (.peqProcess 4) rfl, decodeEncode .wsCurve rfl,
    decodeEncode (.lmAnalyzeOut 65535) rfl, decodeEncode (.chainProcess 64) rfl, rfl, rfl, rfl,
    decodeEncode (.wrStatus 0x04#32) rfl, decodeEncode (.wrSample 1 5 7#32) rfl, decodeEncode (.rdEqSpectrum 7) rfl,
    decodeEncode (.rdSpec 1023) rfl, rfl, rfl, rfl⟩

end Sys2Proof.Machine
end

section
/-!
PROOFS. The decoder against the masks of the opcode table (R61, R65, R66), and the reserved command words (R68). The two
tables list their rows in one order: row by row they match the same words and build the same.
-/

namespace Sys2Proof.Machine

open Sys2Proof.Safety

/-! ## Command words -/

/-- The mask of a format (R61): 0 in the fields the format uses, 1 elsewhere. -/
def formatMask (f : Format) : Word :=
  BitVec.ofNat 32 (0xFEFF + (if f.hasInst then 0 else 2 ^ 8) + (if f.hasNs then 0 else 0xFFFF * 2 ^ 16))

theorem fields_formatMask (f : Format) : fieldOp (formatMask f) = 2 ^ 8 - 1 ∧
    fieldInst (formatMask f) = (if f.hasInst then 0 else 2 ^ 1 - 1) ∧ fieldRsv (formatMask f) = 2 ^ 7 - 1 ∧
    fieldNs (formatMask f) = if f.hasNs then 0 else 2 ^ 16 - 1 := by
  cases f <;> decide

/-- Fields are taken bit by bit. -/
theorem fields_and (x y : Word) : fieldOp (x &&& y) = fieldOp x &&& fieldOp y ∧
    fieldInst (x &&& y) = fieldInst x &&& fieldInst y ∧ fieldRsv (x &&& y) = fieldRsv x &&& fieldRsv y ∧
    fieldNs (x &&& y) = fieldNs x &&& fieldNs y := by
  have slice (start width : Nat) : (x &&& y).toNat / 2 ^ start % 2 ^ width =
      x.toNat / 2 ^ start % 2 ^ width &&& y.toNat / 2 ^ start % 2 ^ width := by
    rw [BitVec.toNat_and, Nat.and_div_two_pow, Nat.and_mod_two_pow]
  refine ⟨by simpa [fieldOp] using slice 0 8, slice 8 1, slice 9 7, ?_⟩
  rw [fieldNs, BitVec.toNat_and, Nat.and_div_two_pow, fieldNs, fieldNs]

/-- A field under a mask of ones is the field, under a mask of zeros 0. -/
theorem and_fieldMask {x n : Nat} (used : Bool) (hx : x < 2 ^ n) :
    x &&& (if used then 0 else 2 ^ n - 1) = 0 ↔ used = true ∨ x = 0 := by
  cases used <;> simp [Nat.and_two_pow_sub_one_eq_mod, Nat.mod_eq_of_lt hx]

theorem field_bounds (w : Word) :
    fieldOp w < 2 ^ 8 ∧ fieldInst w < 2 ^ 1 ∧ fieldRsv w < 2 ^ 7 ∧ fieldNs w < 2 ^ 16 := by
  have := w.isLt
  simp only [fieldOp, fieldInst, fieldRsv, fieldNs]
  omega

/-- A row holds of the words that match its opcode under the mask of its format (R61). -/
theorem cmdRow_holds_iff_mask {row : CmdRow} {w : Word} (op : row.op < 2 ^ 8) :
    row.holds w = true ↔ w &&& formatMask row.format = cmdWord row.op 0 0 := by
  obtain ⟨andOp, andInst, andRsv, andNs⟩ := fields_and w (formatMask row.format)
  obtain ⟨maskOp, maskInst, maskRsv, maskNs⟩ := fields_formatMask row.format
  obtain ⟨wordOp, wordInst, wordRsv, wordNs⟩ := fields_cmdWord (inst := 0) (ns := 0) op (by decide) (by decide)
  obtain ⟨opBound, instBound, rsvBound, nsBound⟩ := field_bounds w
  rw [cmdRow_holds_iff, word_eq_iff, andOp, andInst, andRsv, andNs, maskOp, maskInst, maskRsv, maskNs, wordOp, wordInst,
    wordRsv, wordNs, and_fieldMask _ instBound, and_fieldMask _ nsBound, Nat.and_two_pow_sub_one_eq_mod,
    Nat.and_two_pow_sub_one_eq_mod, Nat.mod_eq_of_lt opBound, Nat.mod_eq_of_lt rsvBound, eq_comm (a := row.op)]
  tauto

/-- The 17 rows and the 17 masks, in one order. -/
theorem cmdRows_masks : List.Forall₂ (fun (row : CmdRow) (m : MaskTable.Row 32) =>
    row.op < 2 ^ 8 ∧ m.mask = formatMask row.format ∧ m.pattern = cmdWord row.op 0 0 ∧
      ∀ w, m.build w 0 = row.build (fieldInst w) (fieldNs w)) cmdRows MaskTable.commands := by
  have inst : MaskTable.inst = fieldInst := funext fun w => (fieldInst_eq w).symm
  have ns : MaskTable.ns = fieldNs := funext fun w => (fieldNs_eq w).symm
  simp only [cmdRows, MaskTable.commands, inst, ns, List.forall₂_cons, List.Forall₂.nil, and_true, implies_true]
  decide

/-- Every mask of R65 covers `OP`, and the patterns differ there. -/
theorem commandMasks_apart : MaskTable.commands.Pairwise
    (fun a b => ∀ w : Word, ¬(w &&& a.mask = a.pattern ∧ w &&& b.mask = b.pattern)) := by
  have covered : ∀ m ∈ MaskTable.commands, fieldOp m.mask = 2 ^ 8 - 1 := by decide
  have op {m : MaskTable.Row 32} (listed : m ∈ MaskTable.commands) {w : Word} (same : w &&& m.mask = m.pattern) :
      fieldOp m.pattern = fieldOp w := by
    rw [← same, (fields_and w m.mask).1, covered m listed, Nat.and_two_pow_sub_one_eq_mod,
      Nat.mod_eq_of_lt (field_bounds w).1]
  have differ : MaskTable.commands.Pairwise fun a b => fieldOp a.pattern ≠ fieldOp b.pattern := by decide
  exact differ.imp_of_mem fun la lb apart w ⟨ha, hb⟩ => apart ((op la ha).trans (op lb hb).symm)

/-- Settles O2: row by row the fields and the masks match the same words. -/
theorem commandsDecodeByMask : Obligations.CommandsDecodeByMask := by
  refine ⟨fun w => ?_, commandMasks_apart⟩
  have same : List.Forall₂ (fun (row : CmdRow) (m : MaskTable.Row 32) =>
      row.holds w = (w &&& m.mask == m.pattern) ∧
        (row.holds w = true → row.build (fieldInst w) (fieldNs w) = m.build w 0)) cmdRows MaskTable.commands :=
    cmdRows_masks.imp fun row m ⟨op, mask, pattern, builds⟩ =>
      ⟨by rw [Bool.eq_iff_iff, beq_iff_eq, mask, pattern, cmdRow_holds_iff_mask op], fun _ => (builds w).symm⟩
  rw [MaskTable.find, ← find?_map_congr same, decodeCommand]
  cases cmdRows.find? (fun r => r.holds w) <;> rfl

/-! ## Reserved command words (R68) -/

/-- The opcodes of the rows whose format is one of `p`. -/
def opcodes (p : Format → Bool) : List (BitVec 8) :=
  (cmdRows.filter fun row => p row.format).map fun row => BitVec.ofNat 8 row.op

theorem opcodes_eq : opcodes (fun _ => true) = [0x00, 0x01, 0x02, 0x10, 0x11, 0x20, 0x21, 0x30, 0x31, 0x40, 0x41, 0x42,
      0x50, 0x51, 0x52, 0x53, 0x60] ∧ opcodes Format.hasInst = [0x20, 0x21] ∧
    opcodes Format.hasNs = [0x11, 0x21, 0x31, 0x41, 0x51, 0x52, 0x53, 0x60] := by
  decide

/-- An opcode has one format. -/
theorem mem_opcodes : ∀ row ∈ cmdRows,
    (BitVec.ofNat 8 row.op ∈ opcodes Format.hasInst ↔ row.format.hasInst = true) ∧
      (BitVec.ofNat 8 row.op ∈ opcodes Format.hasNs ↔ row.format.hasNs = true) := by
  decide

theorem op_eq_iff {w : Word} {op : Nat} (range : op < 2 ^ 8) :
    w.extractLsb' 0 8 = BitVec.ofNat 8 op ↔ op = fieldOp w := by
  rw [← BitVec.toNat_inj, ← fieldOp_eq, BitVec.toNat_ofNat, Nat.mod_eq_of_lt range, eq_comm]

/-- The words a row holds: an assigned opcode, `RSV` 0, and `INST` and `NS` 0 where its format does not use them. -/
theorem exists_holds_iff {w : Word} : (∃ row ∈ cmdRows, row.holds w = true) ↔
    w.extractLsb' 0 8 ∈ opcodes (fun _ => true) ∧ w.extractLsb' 9 7 = 0 ∧
      (w.getLsbD 8 = true → w.extractLsb' 0 8 ∈ opcodes Format.hasInst) ∧
      (w.extractLsb' 16 16 ≠ 0 → w.extractLsb' 0 8 ∈ opcodes Format.hasNs) := by
  have rsv : fieldRsv w = 0 ↔ w.extractLsb' 9 7 = 0 := by rw [fieldRsv_eq]; exact BitVec.toNat_inj (y := 0)
  have ns : fieldNs w = 0 ↔ w.extractLsb' 16 16 = 0 := by rw [fieldNs_eq]; exact BitVec.toNat_inj (y := 0)
  have inst : fieldInst w = 0 ↔ w.getLsbD 8 = false := by
    rw [fieldInst, BitVec.getLsbD, Nat.testBit_eq_decide_div_mod_eq]
    simp
  have named {row : CmdRow} (listed : row ∈ cmdRows) (op : w.extractLsb' 0 8 = BitVec.ofNat 8 row.op) :
      row.holds w = true ↔ w.extractLsb' 9 7 = 0 ∧
        (w.getLsbD 8 = true → w.extractLsb' 0 8 ∈ opcodes Format.hasInst) ∧
        (w.extractLsb' 16 16 ≠ 0 → w.extractLsb' 0 8 ∈ opcodes Format.hasNs) := by
    obtain ⟨usesInst, usesNs⟩ := mem_opcodes row listed
    rw [op, usesInst, usesNs, cmdRow_holds_iff, rsv, inst, ns, ← op_eq_iff (cmdRow_op_lt row listed)]
    cases w.getLsbD 8 <;> simp [op] <;> tauto
  constructor
  · rintro ⟨row, listed, holds⟩
    have op := (op_eq_iff (cmdRow_op_lt row listed)).2 (cmdRow_holds_iff.1 holds).1
    refine ⟨?_, (named listed op).1 holds⟩
    rw [op]
    exact List.mem_map.2 ⟨row, List.mem_filter.2 ⟨listed, rfl⟩, rfl⟩
  · rintro ⟨assigned, fields⟩
    obtain ⟨row, listed, op⟩ := List.mem_map.1 assigned
    have listed := (List.mem_filter.1 listed).1
    exact ⟨row, listed, (named listed op.symm).2 fields⟩

/-- While no command runs, a word that names no command latches BAD_CMD (R67). -/
theorem execWrCmd_unnamed {w : Word} {s : State} {e : Reject} (idle : s.run = none)
    (word : decodeCommand w = .error e) : execWrCmd w s = .next (raise .badCmd w s) := by
  simp [execWrCmd, busy, idle, word]

/-- Settles O4: a word is reserved where no row of the command map holds of it. -/
theorem reservedCommandWords : Obligations.ReservedCommandWords := by
  intro w op instBit rsv ns assigned block reserved
  obtain ⟨assignedOps, instOps, nsOps⟩ := opcodes_eq
  have names : (∃ row ∈ cmdRows, row.holds w = true) ↔ ¬reserved := by
    have pair : op ∈ ([0x20, 0x21] : List (BitVec 8)) ↔ ¬(op ≠ 0x20 ∧ op ≠ 0x21) := by
      rw [List.mem_pair, not_and_or, not_not, not_not]
    rw [exists_holds_iff, assignedOps, instOps, nsOps, pair]
    simp only [reserved, not_or, not_and, not_not]
    rfl
  refine ⟨fun isReserved s idle => ?_, fun notReserved => ?_⟩
  · have unnamed : ∀ row ∈ cmdRows, row.holds w ≠ true := fun row listed holds => names.1 ⟨row, listed, holds⟩ isReserved
    exact execWrCmd_unnamed idle (decodeCommand_unnamed unnamed)
  · obtain ⟨row, listed, holds⟩ := names.2 notReserved
    have word := decodeCommand_of_holds listed holds
    exact ⟨_, word, by rw [decodeCommand_word word]; rfl⟩

/-! ## Bus transactions -/

/-- A key that matches the mask of a row's range lies in the range. -/
theorem Covers.holds_of_matches {row : MaskTable.Row 19} {r : BusRow} {k : BitVec 19} (h : Covers row r)
    (range : r.key < 2 ^ 19) (aligned : k.toNat % 4 = 0) (same : k &&& row.mask = row.pattern) :
    r.holds k.toNat = true := by
  obtain ⟨m, -, count, ⟨q, key⟩, mask, pattern⟩ := h
  have below := Nat.mul_div_le k.toNat (2 ^ (m + 2))
  rw [mask, and_mask_of_range aligned rfl, pattern, ← BitVec.toNat_inj, BitVec.toNat_ofNat, BitVec.toNat_ofNat,
    Nat.mod_eq_of_lt (below.trans_lt k.isLt), Nat.mod_eq_of_lt range] at same
  have above := Nat.lt_mul_div_succ k.toNat (Nat.two_pow_pos (m + 2))
  have size : 4 * r.count = 2 ^ (m + 2) := by rw [count]; ring
  rw [busRow_holds_iff, size]
  rw [Nat.mul_succ] at above
  omega

/-- The 66 rows and the 66 masks, in one order. -/
theorem busRows_masks :
    List.Forall₂ (fun r row => Covers row r ∧ r.key < 2 ^ 19) busRows MaskTable.bus := by
  have covers : ∀ p ∈ busRows.zip MaskTable.bus, Covers p.2 p.1 ∧ p.1.key < 2 ^ 19 := by
    unfold Covers
    decide +kernel
  exact List.forall₂_iff_zip.2 ⟨by decide, fun listed => covers _ listed⟩

theorem slot_eq (k : BitVec 19) : MaskTable.slot k = k.toNat / 4 % 8 := by
  simp [MaskTable.slot, BitVec.extractLsb'_toNat, Nat.shiftRight_eq_div_pow]

theorem bin_eq (k : BitVec 19) : MaskTable.bin k = k.toNat / 4 % 1024 := by
  simp [MaskTable.bin, BitVec.extractLsb'_toNat, Nat.shiftRight_eq_div_pow]

theorem channel_eq (k : BitVec 19) : MaskTable.channel k = k.toNat / 16384 % 2 := by
  simp [MaskTable.channel, BitVec.extractLsb'_toNat, Nat.shiftRight_eq_div_pow]

theorem index_eq (k : BitVec 19) : MaskTable.index k = k.toNat / 4 % 4096 := by
  simp [MaskTable.index, BitVec.extractLsb'_toNat, Nat.shiftRight_eq_div_pow]

/-- On the words of its row the operands read off the address are those numbered from the row's first word. -/
def SameBuild (r : BusRow) (row : MaskTable.Row 19) : Prop :=
  ∀ (k : BitVec 19) (data : Word), r.key ≤ k.toNat → k.toNat < r.key + 4 * r.count →
    row.build k data = r.build ((k.toNat - r.key) / 4) data

theorem SameBuild.fixed {key : Nat} {pattern mask : BitVec 19} {i : Word → Instr} :
    SameBuild ⟨key, 1, fun _ => i⟩ ⟨pattern, mask, fun _ => i⟩ := fun _ _ _ _ => rfl

theorem SameBuild.slots {key : Nat} {pattern mask : BitVec 19} {i : Nat → Instr} (aligned : key % 32 = 0) :
    SameBuild ⟨key, 8, fun j _ => i j⟩ ⟨pattern, mask, fun k _ => i (MaskTable.slot k)⟩ :=
  fun k _ low high => congrArg i (by rw [slot_eq]; simp only at *; omega)

theorem SameBuild.bins {key : Nat} {pattern mask : BitVec 19} {i : Nat → Instr} (aligned : key % 4096 = 0) :
    SameBuild ⟨key, 1024, fun j _ => i j⟩ ⟨pattern, mask, fun k _ => i (MaskTable.bin k)⟩ :=
  fun k _ low high => congrArg i (by rw [bin_eq]; simp only at *; omega)

theorem SameBuild.samples {key : Nat} {pattern mask : BitVec 19} {i : Nat → Nat → Word → Instr}
    (aligned : key % 32768 = 0) : SameBuild ⟨key, Config.cMax * 4096, fun j w => i (j / 4096) (j % 4096) w⟩
      ⟨pattern, mask, fun k w => i (MaskTable.channel k) (MaskTable.index k) w⟩ := by
  intro k data low high
  simp only [Config.cMax] at *
  have channel : MaskTable.channel k = (k.toNat - key) / 4 / 4096 := by rw [channel_eq]; omega
  have index : MaskTable.index k = (k.toNat - key) / 4 % 4096 := by rw [index_eq]; omega
  rw [channel, index]

theorem busRows_builds : List.Forall₂ SameBuild busRows MaskTable.bus := by
  have registers : List.Forall₂ SameBuild (ctlReadRows ++ ctlWriteRows ++ paramWriteRows ++ paramReadRows)
      (MaskTable.controlReads ++ MaskTable.controlWrites ++ MaskTable.parameterWrites ++ MaskTable.parameterReads) := by
    simp only [ctlReadRows, ctlWriteRows, paramWriteRows, paramReadRows, MaskTable.controlReads,
      MaskTable.controlWrites, MaskTable.parameterWrites, MaskTable.parameterReads, List.cons_append, List.nil_append,
      List.forall₂_cons, List.Forall₂.nil, and_true]
    and_intros <;> exact .fixed
  have monitors : List.Forall₂ SameBuild monitorRows MaskTable.monitorReads := by
    simp only [monitorRows, MaskTable.monitorReads, List.forall₂_cons, List.Forall₂.nil, and_true]
    exact ⟨.slots rfl, .slots rfl, .slots rfl, .slots rfl, .slots rfl, .slots rfl, .slots rfl, .fixed, .fixed, .fixed,
      .fixed, .fixed, .fixed, .fixed⟩
  have windows : List.Forall₂ SameBuild windowRows MaskTable.windows := by
    simp only [windowRows, MaskTable.windows, List.forall₂_cons, List.Forall₂.nil, and_true]
    exact ⟨.bins rfl, .bins rfl, .samples (i := fun c j _ => .rdSample c j) rfl, .samples rfl⟩
  exact List.rel_append (List.rel_append registers monitors) windows

/-- Row by row the ranges and the masks match the same aligned keys, and the rows build the same there. -/
theorem busRows_same {k : BitVec 19} (aligned : k.toNat % 4 = 0) (data : Word) :
    List.Forall₂ (fun (r : BusRow) (row : MaskTable.Row 19) => r.holds k.toNat = (k &&& row.mask == row.pattern) ∧
      (r.holds k.toNat = true → r.build ((k.toNat - r.key) / 4) data = row.build k data)) busRows MaskTable.bus := by
  rw [List.forall₂_iff_zip]
  refine ⟨rfl, fun {r row} listed => ⟨?_, fun holds => ?_⟩⟩
  · obtain ⟨covers, range⟩ := (List.forall₂_iff_zip.1 busRows_masks).2 listed
    rw [Bool.eq_iff_iff, beq_iff_eq]
    exact ⟨covers.matches_of_holds aligned, covers.holds_of_matches range aligned⟩
  · obtain ⟨low, high⟩ := busRow_holds_iff.1 holds
    exact ((List.forall₂_iff_zip.1 busRows_builds).2 listed k data low high).symm

/-- Settles O3: on aligned keys the ranges and the masks match the same keys, row by row. -/
theorem busDecodesByMask : Obligations.BusDecodesByMask := by
  intro t
  simp only [ne_eq, aligned_iff]
  by_cases bad : t.size ≠ 4 ∨ t.addr.toNat % 4 ≠ 0
  · rw [if_pos bad, decodeTxn_badAccess bad]
  · have aligned : t.key % 4 = 0 := by
      unfold Txn.key writeKey
      split <;> omega
    rw [if_neg bad, decodeTxn, if_neg bad, ← toNat_key, decodeKey, MaskTable.find,
      ← find?_map_congr (busRows_same (by rwa [toNat_key]) t.wdata)]
    cases busRows.find? fun r => r.holds (BitVec.ofBool t.write ++ t.addr).toNat <;> rfl

end Sys2Proof.Machine
end

section
/-!
PROOFS. The CMD write (R67, R74): its cases, what each check refuses, and that a command row is the write and the
sequencer's two stages (log 7, log 10).
-/

namespace Sys2Proof.Machine

open Sys2Proof.Safety

/-! ## The write, case by case -/

theorem execWrCmd_busy {w : Word} {s : State} (running : s.run.isSome = true) :
    execWrCmd w s = .next (raise .busyCmd w s) :=
  if_pos running

theorem execWrCmd_refused {w : Word} {i : Instr} {k : ErrKind} {s : State} (idle : s.run = none)
    (word : decodeCommand w = .ok i) (failed : commandCheck i s = some k) :
    execWrCmd w s = .next (raise k w s) := by
  simp [execWrCmd, busy, idle, word, failed]

theorem execWrCmd_accepted {w : Word} {i : Instr} {s : State} (idle : s.run = none)
    (word : decodeCommand w = .ok i) (passed : commandCheck i s = none) : execWrCmd w s = .next (accept w s) := by
  simp [execWrCmd, busy, idle, word, passed]

/-! ## What the checks refuse (R74) -/

/-- The commands that need a prepared block (R74). -/
def NeedsPrepared (i : Instr) : Prop := i = .wsCurve ∨ (blockLength i).isSome = true

theorem check_badConfig {s : State} (bad : cfgOk s.cfg = false) : commandCheck .prepare s = some .badConfig := by
  simp [commandCheck, checkConfig, bad]

theorem check_notPrepared {i : Instr} {s : State} (needs : NeedsPrepared i) (unprepared : s.prepared = false) :
    commandCheck i s = some .notPrepared := by
  rcases needs with rfl | block
  · simp [commandCheck, checkPrepared, unprepared]
  · obtain ⟨ns, length⟩ := Option.isSome_iff_exists.1 block
    rw [(blockLength_command length).2]
    simp [checkBlock, unprepared]

theorem check_badCount {i : Instr} {ns : Nat} {s : State} (length : blockLength i = some ns)
    (prepared : s.prepared = true) (bad : ¬(1 ≤ ns ∧ ns ≤ s.prep.maxblock.toNat)) :
    commandCheck i s = some .badCount := by
  rw [(blockLength_command length).2, checkBlock, if_pos prepared, if_neg bad]

/-- A command that is not PREPARE and needs no prepared block has no check. -/
theorem check_free {i : Instr} (s : State) (notPrepare : i ≠ .prepare) (free : ¬NeedsPrepared i) :
    commandCheck i s = none := by
  cases i with
  | prepare => exact absurd rfl notPrepare
  | wsCurve => exact absurd (.inl rfl) free
  | spaProduce | firProcess | peqProcess | wsProcess | lmAnalyzeIn | lmAnalyzeOut | lmApply | chainProcess =>
    exact absurd (.inr rfl) free
  | _ => rfl

theorem check_passed {i : Instr} {s : State} (config : i = .prepare → cfgOk s.cfg = true)
    (prepared : NeedsPrepared i → s.prepared = true)
    (count : ∀ ns, blockLength i = some ns → 1 ≤ ns ∧ ns ≤ s.prep.maxblock.toNat) : commandCheck i s = none := by
  by_cases isPrepare : i = .prepare
  · subst isPrepare
    exact checkConfig_none.2 (config rfl)
  · by_cases needs : NeedsPrepared i
    · rcases needs with rfl | block
      · simp [commandCheck, checkPrepared, prepared (.inl rfl)]
      · obtain ⟨ns, length⟩ := Option.isSome_iff_exists.1 block
        rw [(blockLength_command length).2]
        exact checkBlock_none.2 ⟨prepared (.inr block), count ns length⟩
    · exact check_free s isPrepare needs

/-- Settles O14: by the cases of the write and what the checks refuse. -/
theorem commandWriteDecides : Obligations.CommandWriteDecides := by
  intro w s
  refine ⟨execWrCmd_busy, execWrCmd_unnamed, fun i idle word => ⟨?_, ?_, ?_, ?_⟩⟩
  · rintro rfl bad
    exact execWrCmd_refused idle word (check_badConfig bad)
  · exact fun needs unprepared => execWrCmd_refused idle word (check_notPrepared needs unprepared)
  · rintro - prepared ⟨ns, length, bad⟩
    exact execWrCmd_refused idle word (check_badCount length prepared bad)
  · intro config prepared count
    exact execWrCmd_accepted idle word (check_passed config prepared fun ns length =>
      not_not.1 fun bad => count ⟨ns, length, bad⟩)

/-- Settles O15: by the issue of the command and what the checks refuse. -/
theorem refusedCommands : Obligations.RefusedCommands := by
  intro i w s word
  rw [exec_command word]
  refine ⟨fun running => ?_, ?_, fun idle needs unprepared => ?_, fun ns idle prepared length bad => ?_⟩
  · obtain ⟨r, running⟩ := Option.isSome_iff_exists.1 running
    exact issue_busy running
  · rintro idle rfl bad
    rw [check_badConfig bad]
    exact issue_refused idle
  · rw [check_notPrepared needs unprepared]
    exact issue_refused idle
  · rw [check_badCount length prepared bad]
    exact issue_refused idle

/-! ## The sequencer after the write (R73, R75) -/

/-- Two stages carry out an accepted command: its rule, then its completion. -/
theorem sequencerStages_accepted {w : Word} {i : Instr} (s : State) (word : decodeCommand w = .ok i) :
    andThen (sequencerStage (accept w s)) sequencerStage =
      andThen (commandBody i (running w s) (accept w s)) fun t => .next (complete t) := by
  rw [sequencerStage_rule (accept_run w s) rfl word]
  cases commandBody i (running w s) (accept w s) with
  | next t => exact sequencerStage_worked (markWorked_run _ t) rfl
  | fault e => rfl
  | refused e => rfl

/-- Settles O8: refused, the write leaves the sequencer idle; accepted, its two stages are the rule and completion. -/
theorem runIsWriteThenSequencer : Obligations.RunIsWriteThenSequencer := by
  intro i w s wf word
  have decoded := decodeCommand_commandWord wf word
  rw [exec_command word]
  cases idle : s.run with
  | some r => exact (issue_busy idle).trans (execWrCmd_busy (idle ▸ rfl)).symm
  | none =>
    change _ = andThen (andThen (execWrCmd w s) sequencerStage) sequencerStage
    cases check : commandCheck i s with
    | some k =>
      have still : (raise k w s).run = none := by simp [idle]
      rw [issue_refused idle, execWrCmd_refused idle decoded check]
      simp only [andThen, sequencerStage_idle still]
    | none =>
      rw [execWrCmd_accepted idle decoded check]
      refine Eq.trans ?_ (sequencerStages_accepted s decoded).symm
      simp [issue, busy, idle]

end Sys2Proof.Machine
end

section
/-!
PROOFS. What a command leaves (R74, R75): two steps complete an accepted one, none touches the host's registers, and
where the rule is an update of the units the answer is that update with DONE set: NOP and RESET_ALL (R76, R78).
-/

namespace Sys2Proof.Machine

open Sys2Proof.Safety

/-! ## Completion (R74, R75, R197) -/

/-- A command whose rule is performed completes at the next step. -/
theorem step_worked {s : State} {r : Running} (running : s.run = some r) (worked : r.worked = true)
    (nothing : s.inbox = []) : step s = .next (complete s) :=
  (step_nothing nothing).trans (sequencerStage_worked running worked)

/-- The rule of a legal running command is performed in one step, and the command still runs. -/
theorem step_performs {s : State} {r : Running} (legal : Legal s) (running : s.run = some r)
    (pending : r.worked = false) (nothing : s.inbox = []) :
    ∃ t, step s = .next t ∧ t.run = some { r with worked := true } ∧ t.inbox = [] := by
  obtain ⟨i, word, passed⟩ := (legal.run r running).accepted pending
  obtain ⟨u, rule⟩ := commandBody_next (r := r) (s := s)
    (mapped_of_check (s := { s with cfg := r.cfg }) legal.prepared passed)
  obtain ⟨-, -, -, -, -, -, -, -, -, -, -, -, -, inbox⟩ := commandBody_frame rule
  refine ⟨markWorked r u, ?_, rfl, inbox.trans nothing⟩
  rw [step_nothing nothing, sequencerStage_rule running pending word, rule]
  rfl

/-- Settles O9: the first step performs the rule or completes, the second completes or finds the sequencer idle. -/
theorem acceptedCommandCompletes : Obligations.AcceptedCommandCompletes := by
  intro s r legal running nothing
  cases worked : r.worked with
  | true =>
    have still : step (complete s) = .next (complete s) :=
      (step_nothing (s := complete s) nothing).trans (sequencerStage_idle rfl)
    exact ⟨_, _, step_worked running worked nothing, still, ⟨rfl, rfl⟩, fun _ => ⟨rfl, rfl⟩⟩
  | false =>
    obtain ⟨t, first, runs, rest⟩ := step_performs legal running worked nothing
    exact ⟨t, _, first, step_worked runs rfl rest, ⟨rfl, rfl⟩, nofun⟩

/-! ## The host's registers (R31, R188) -/

/-- Settles O35: by what the issue of a command can answer. -/
theorem commandsKeepHostRegisters : Obligations.CommandsKeepHostRegisters := by
  intro i s t command h
  obtain ⟨w, word⟩ := Option.isSome_iff_exists.1 command
  rw [exec_command word] at h
  rcases issue_cases h with ⟨running, rfl⟩ | ⟨-, k, failed, rfl⟩ | ⟨-, -, u, rule, rfl⟩
  · simp only [raise_frame, true_and]
    exact fun idle => absurd running (by simp [idle])
  · simp only [raise_frame, true_and]
    exact fun _ passed => absurd failed (by simp [passed])
  · obtain ⟨-, err, -, pnan, errCode, errOvf, errInfo, irqEn, arg, cfg, par, -, rdata, inbox⟩ := commandBody_frame rule
    exact ⟨par, arg, cfg, irqEn, pnan, inbox, fun _ _ =>
      ⟨⟨err, errCode, errOvf, errInfo, pnan, irqEn, arg, cfg, par, rdata, inbox⟩, ⟨rfl, rfl⟩⟩⟩

/-! ## Commands whose rule is an update (R76, R78) -/

/-- An update that neither reads nor touches what acceptance and completion write. -/
def Apart (g : State → State) : Prop :=
  ∀ s run done nonf,
    g { s with run := run, done := done, nonf := nonf } = { g s with run := run, done := done, nonf := nonf }

/-- DONE set and `NONF` clear, as the completion of a command that read no sample leaves them (R75). -/
def finish (s : State) : State := { s with done := true, nonf := false }

theorem finish_finish (s : State) : finish (finish s) = finish s := rfl

namespace Apart

theorem comp {f g : State → State} (hf : Apart f) (hg : Apart g) : Apart fun s => g (f s) := by
  intro s run done nonf
  dsimp only
  rw [hf, hg]

theorem run_kept {g : State → State} (h : Apart g) (s : State) : (g s).run = s.run :=
  (congrArg State.run (h s s.run s.done s.nonf) :)

theorem finish {g : State → State} (h : Apart g) (s : State) : g (finish s) = Machine.finish (g s) := by
  have finished : g (Machine.finish s) = { g s with run := s.run, done := true, nonf := false } := h s s.run true false
  rw [finished, ← h.run_kept s]
  rfl

end Apart

/-- A command without a check whose rule is an update is answered, while idle, by the update with DONE set. -/
theorem exec_update {i : Instr} {w : Word} {g : State → State} {s : State} (apart : Apart g)
    (word : commandWord i = some w) (free : ∀ s, commandCheck i s = none)
    (rule : ∀ r s, commandBody i r s = .next (g s)) (idle : s.run = none) : exec i s = .next (finish (g s)) := by
  have accepted : g (accept w s) = { g s with run := some (running w s), done := false, nonf := false } :=
    apart s _ _ _
  rw [exec_command word, free, issue_accepted idle (rule _ _), accepted]
  simp [complete, finish, apart.run_kept, idle]

theorem wsResetState_apart : Apart wsResetState := fun _ _ _ _ => rfl
theorem peqResetState_apart : Apart peqResetState := fun _ _ _ _ => rfl
theorem spaResetState_apart : Apart spaResetState := fun _ _ _ _ => rfl
theorem firResetState_apart (inst : Nat) : Apart (firResetState inst) := fun _ _ _ _ => rfl
theorem lmResetState_apart : Apart lmResetState := fun _ _ _ _ => rfl

theorem resetUnits_apart : Apart resetUnits :=
  wsResetState_apart.comp <| peqResetState_apart.comp <| spaResetState_apart.comp <|
    (firResetState_apart 0).comp <| (firResetState_apart 1).comp lmResetState_apart

theorem exec_nop {s : State} (idle : s.run = none) : exec .nop s = .next (finish s) :=
  exec_update (g := id) (fun _ _ _ _ => rfl) rfl (fun _ => rfl) (fun _ _ => rfl) idle

theorem exec_resetAll {s : State} (idle : s.run = none) : exec .resetAll s = .next (finish (resetUnits s)) :=
  exec_update resetUnits_apart rfl (fun _ => rfl) (fun _ _ => rfl) idle

theorem exec_wsReset {s : State} (idle : s.run = none) : exec .wsReset s = .next (finish (wsResetState s)) :=
  exec_update wsResetState_apart rfl (fun _ => rfl) (fun _ _ => rfl) idle

theorem exec_peqReset {s : State} (idle : s.run = none) : exec .peqReset s = .next (finish (peqResetState s)) :=
  exec_update peqResetState_apart rfl (fun _ => rfl) (fun _ _ => rfl) idle

theorem exec_spaReset {s : State} (idle : s.run = none) : exec .spaReset s = .next (finish (spaResetState s)) :=
  exec_update spaResetState_apart rfl (fun _ => rfl) (fun _ _ => rfl) idle

theorem exec_firReset {s : State} (inst : Nat) (idle : s.run = none) :
    exec (.firReset inst) s = .next (finish (firResetState inst s)) :=
  exec_update (firResetState_apart inst) rfl (fun _ => rfl) (fun _ _ => rfl) idle

theorem exec_lmReset {s : State} (idle : s.run = none) : exec .lmReset s = .next (finish (lmResetState s)) :=
  exec_update lmResetState_apart rfl (fun _ => rfl) (fun _ _ => rfl) idle

/-- Of the words with opcode 0, NOP's alone names a command: its format uses no other field (R61, R76). -/
theorem decodeCommand_opcode_zero {w : Word} (op : fieldOp w = 0) (other : w ≠ 0) :
    decodeCommand w = .error .badCmd := by
  have format : ∀ row ∈ cmdRows, row.op = 0 → row.format.hasInst = false ∧ row.format.hasNs = false := by decide
  refine decodeCommand_unnamed fun row listed holds => other ?_
  obtain ⟨same, rsv, inst, ns⟩ := cmdRow_holds_iff.1 holds
  obtain ⟨noInst, noNs⟩ := format row listed (same.trans op)
  rw [noInst] at inst
  rw [noNs] at ns
  exact (word_eq_iff w 0).2 ⟨op, inst.resolve_left nofun, rsv, ns.resolve_left nofun⟩

/-- Settles O21: NOP's update is the identity. -/
theorem nopEffect : Obligations.NopEffect := by
  refine ⟨fun s => exec_nop, fun s r running => (exec_command rfl s).trans (issue_busy running), fun w op other => ?_⟩
  exact decodeCommand_opcode_zero (by rw [fieldOp_eq, op]; rfl) other

/-! ## The units alone (R78, R188) -/

/-- The five units alone differ. -/
def UnitsOnly (s t : State) : Prop :=
  ∃ ws peq spa fir lm, t = { s with ws := ws, peq := peq, spa := spa, fir := fir, lm := lm }

namespace UnitsOnly

theorem trans {s t u : State} (h : UnitsOnly s t) (g : UnitsOnly t u) : UnitsOnly s u := by
  obtain ⟨_, _, _, _, _, rfl⟩ := h
  obtain ⟨_, _, _, _, _, rfl⟩ := g
  exact ⟨_, _, _, _, _, rfl⟩

theorem eq {s t : State} (h : UnitsOnly s t) :
    t = { s with ws := t.ws, peq := t.peq, spa := t.spa, fir := t.fir, lm := t.lm } := by
  obtain ⟨_, _, _, _, _, rfl⟩ := h
  rfl

theorem finish_eq {s t : State} (h : UnitsOnly s t) : finish t =
    { s with ws := t.ws, peq := t.peq, spa := t.spa, fir := t.fir, lm := t.lm, done := true, nonf := false } := by
  obtain ⟨_, _, _, _, _, rfl⟩ := h
  rfl

end UnitsOnly

theorem resetUnits_unitsOnly (s : State) : UnitsOnly s (resetUnits s) := by
  have ws : UnitsOnly s (wsResetState s) := ⟨_, _, _, _, _, rfl⟩
  have peq (t : State) : UnitsOnly t (peqResetState t) := ⟨_, _, _, _, _, rfl⟩
  have spa (t : State) : UnitsOnly t (spaResetState t) := ⟨_, _, _, _, _, rfl⟩
  have fir (inst : Nat) (t : State) : UnitsOnly t (firResetState inst t) := ⟨_, _, _, _, _, rfl⟩
  have lm (t : State) : UnitsOnly t (lmResetState t) := ⟨_, _, _, _, _, rfl⟩
  exact ws.trans (peq _) |>.trans (spa _) |>.trans (fir 0 _) |>.trans (fir 1 _) |>.trans (lm _)

/-- Settles O25: a unit's reset does not see the completion of the one before it, so the six together are RESET_ALL's
update. -/
theorem resetAllEffect : Obligations.ResetAllEffect := by
  intro s idle
  refine ⟨_, exec_resetAll idle, ?frame, _, _, _, _, _, _, exec_wsReset idle, exec_peqReset ?_, exec_spaReset ?_,
    exec_firReset 0 ?_, exec_firReset 1 ?_, exec_lmReset ?_, ?same⟩
  case frame => exact (resetUnits_unitsOnly s).finish_eq
  case same =>
    simp only [peqResetState_apart.finish, spaResetState_apart.finish, (firResetState_apart _).finish,
      lmResetState_apart.finish, finish_finish]
    rfl
  all_goals simpa [finish] using idle

end Sys2Proof.Machine
end

section
/-!
PROOFS. PREPARE (R77): the state it leaves, written out unit by unit as a function of the configuration and the cutoff
registers. It does not depend on what the units held before, so a second PREPARE leaves it again (R190).
-/

namespace Sys2Proof.Machine

/-! ## The units PREPARE leaves -/

/-- The waveshaper prepared (R102, R103). -/
def preparedWs (fs : F32) : WsState :=
  ⟨Vector.replicate Config.cMax WsChan.zero, tauCoeff Open.tauRms fs, tauCoeff Open.tauPeak fs⟩

/-- The equaliser prepared (R117, R118). -/
def preparedPeq (fs : F32) : PeqState :=
  ⟨tab Config.numBands fun b => { EqBand.reset with bin := bandBin fs b }, PeqState.zeroSt⟩

/-- The analyser prepared (R130, R131). -/
def preparedSpa (fs : F32) : SpaState :=
  { SpaState.reset with win := tab Config.spaLen hann, binfreq := tab Config.spaBins (binFreq fs) }

/-- A filter pair prepared (R141, R142). -/
def preparedInst (par : Params) (fs : F32) : FirInst :=
  ⟨highPass (lowCut par fs) fs, lowPass (highCut par fs) fs, lowCut par fs, highCut par fs,
    FirInst.zeroDl, FirInst.zeroDl⟩

/-- The loudness unit prepared (R149, R150). -/
def preparedLm (fs : F32) : LmState :=
  { LmState.reset with
    kHp := kwHighPass Config.kwHpHz Config.kwHpQ fs
    kSh := kwShelf Config.kwShelfHz Config.kwShelfDb Config.kwShelfQ fs
    aAtt := tauCoeff Open.tauAtt fs
    aRel := tauCoeff Open.tauRel fs }

/-- A state with every unit prepared. -/
def prepareUnits (par : Params) (s : State) : State :=
  { s with
    ws := preparedWs s.prep.fs
    peq := preparedPeq s.prep.fs
    spa := preparedSpa s.prep.fs
    fir := Vector.replicate 2 (preparedInst par s.prep.fs)
    lm := preparedLm s.prep.fs }

/-! ## What each derivation computes -/

theorem wsDerive_ws (s : State) : (wsDerive s).ws =
    { s.ws with aRms := tauCoeff Open.tauRms s.prep.fs, aPk := tauCoeff Open.tauPeak s.prep.fs } := rfl

theorem spaDerive_spa (s : State) : (spaDerive s).spa =
    { s.spa with win := tab Config.spaLen hann, binfreq := tab Config.spaBins (binFreq s.prep.fs) } := rfl

theorem lmDerive_lm (s : State) : (lmDerive s).lm =
    { s.lm with
      kHp := kwHighPass Config.kwHpHz Config.kwHpQ s.prep.fs
      kSh := kwShelf Config.kwShelfHz Config.kwShelfDb Config.kwShelfQ s.prep.fs
      aAtt := tauCoeff Open.tauAtt s.prep.fs
      aRel := tauCoeff Open.tauRel s.prep.fs } := rfl

theorem eqDerive_peq (s : State) : (eqDerive s).peq =
    { s.peq with band := mapBands (fun b x => { x with bin := bandBin s.prep.fs b }) s.peq.band } := rfl

theorem peqResetState_peq (s : State) : (peqResetState s).peq =
    ⟨mapBands (fun _ => bandClear) s.peq.band, PeqState.zeroSt⟩ := rfl

/-- A band cleared keeps its bin alone, and a derived one replaces it. -/
theorem bands_prepared (fs : F32) (v : Vector EqBand Config.numBands) :
    mapBands (fun b x => { x with bin := bandBin fs b }) (mapBands (fun _ => bandClear) v) =
      (preparedPeq fs).band := by
  refine vget_ext EqBand.reset fun b hb => ?_
  have cleared : vget (mapBands (fun _ => bandClear) v) b EqBand.reset = bandClear (vget v b EqBand.reset) :=
    vget_tab _ _ hb
  rw [mapBands, vget_tab _ _ hb, cleared]
  exact (vget_tab (fun b => { EqBand.reset with bin := bandBin fs b }) EqBand.reset hb).symm

/-- The filter pair replaced. -/
theorem firInst_vset_same {s t : State} {inst : Nat} {x : FirInst} (h : t.fir = vset s.fir inst x) (hi : inst < 2) :
    firInst t inst = x := by
  unfold firInst
  rw [h, vget_vset_same _ _ _ hi]

theorem firInst_resetState {inst : Nat} (s : State) (hi : inst < 2) : firInst (firResetState inst s) inst =
    { firInst s inst with dlLc := FirInst.zeroDl, dlHc := FirInst.zeroDl } :=
  firInst_vset_same rfl hi

theorem firInst_resetState_other {inst j : Nat} (s : State) (hj : j ≠ inst) :
    firInst (firResetState inst s) j = firInst s j :=
  firInst_vset_other rfl hj

/-- Of its filter pair a derivation keeps the delay lines alone. -/
theorem firInst_derive (par : Params) {inst : Nat} (s : State) (hi : inst < 2) :
    firInst (firDerive par inst s) inst =
      { preparedInst par s.prep.fs with dlLc := (firInst s inst).dlLc, dlHc := (firInst s inst).dlHc } :=
  firInst_vset_same rfl hi

theorem firInst_derive_other (par : Params) {inst j : Nat} (s : State) (hj : j ≠ inst) :
    firInst (firDerive par inst s) j = firInst s j :=
  firInst_vset_other rfl hj

/-- Both filter pairs after the resets: the delay lines are clear. -/
theorem firInst_resetUnits (s : State) {j : Nat} (hj : j < 2) :
    (firInst (resetUnits s) j).dlLc = FirInst.zeroDl ∧ (firInst (resetUnits s) j).dlHc = FirInst.zeroDl := by
  unfold resetUnits
  rw [firInst_congr (lmResetState_fir _)]
  match j with
  | 0 => simp [firInst_resetState_other, firInst_resetState]
  | 1 => simp [firInst_resetState]

/-- Both filter pairs after the derivations: all but the delay lines is the snapshot's and the sample rate's. -/
theorem firInst_deriveUnits (par : Params) (s : State) {j : Nat} (hj : j < 2) : firInst (deriveUnits par s) j =
    { preparedInst par s.prep.fs with dlLc := (firInst s j).dlLc, dlHc := (firInst s j).dlHc } := by
  have before (j : Nat) : firInst (spaDerive (eqDerive (wsDerive s))) j = firInst s j := firInst_congr (by simp) j
  unfold deriveUnits
  rw [firInst_congr (lmDerive_fir _)]
  match j with
  | 0 => simp [firInst_derive_other, firInst_derive, before]
  | 1 => simp [firInst_derive_other, firInst_derive, before]

/-! ## The units reset and derived -/

theorem deriveUnits_unitsOnly (par : Params) (s : State) : UnitsOnly s (deriveUnits par s) := by
  have ws : UnitsOnly s (wsDerive s) := ⟨_, _, _, _, _, rfl⟩
  have peq (t : State) : UnitsOnly t (eqDerive t) := ⟨_, _, _, _, _, rfl⟩
  have spa (t : State) : UnitsOnly t (spaDerive t) := ⟨_, _, _, _, _, rfl⟩
  have fir (inst : Nat) (t : State) : UnitsOnly t (firDerive par inst t) := ⟨_, _, _, _, _, rfl⟩
  have lm (t : State) : UnitsOnly t (lmDerive t) := ⟨_, _, _, _, _, rfl⟩
  exact ws.trans (peq _) |>.trans (spa _) |>.trans (fir 0 _) |>.trans (fir 1 _) |>.trans (lm _)

/-- Reset and derived, the units hold nothing of what they held. -/
theorem deriveUnits_resetUnits (par : Params) (s : State) : deriveUnits par (resetUnits s) = prepareUnits par s := by
  have ws : (deriveUnits par (resetUnits s)).ws = preparedWs s.prep.fs := by
    simp [deriveUnits, resetUnits, wsDerive_ws, preparedWs]
  have peq : (deriveUnits par (resetUnits s)).peq = preparedPeq s.prep.fs := by
    simp [deriveUnits, resetUnits, eqDerive_peq, peqResetState_peq, bands_prepared, preparedPeq]
  have spa : (deriveUnits par (resetUnits s)).spa = preparedSpa s.prep.fs := by
    simp [deriveUnits, resetUnits, spaDerive_spa, spaClear, preparedSpa, SpaState.reset]
  have lm : (deriveUnits par (resetUnits s)).lm = preparedLm s.prep.fs := by
    simp [deriveUnits, resetUnits, lmDerive_lm, lmClear, preparedLm]
  have fir : (deriveUnits par (resetUnits s)).fir = Vector.replicate 2 (preparedInst par s.prep.fs) := by
    refine vget_ext (preparedInst par s.prep.fs) fun j hj => ?_
    obtain ⟨lc, hc⟩ := firInst_resetUnits s hj
    have inst : firInst (deriveUnits par (resetUnits s)) j = preparedInst par s.prep.fs := by
      rw [firInst_deriveUnits par _ hj, lc, hc]
      simp [preparedInst]
    rw [vget_replicate, ← inst, firInst, vget_lt _ _ hj, vget_lt _ _ hj]
  have only := (resetUnits_unitsOnly s).trans (deriveUnits_unitsOnly par _)
  rw [only.eq, ws, peq, spa, fir, lm]
  rfl

/-! ## PREPARE -/

/-- The state PREPARE leaves (R77). -/
def afterPrepare (s : State) : State :=
  finish { prepareUnits s.par { s with prep := s.cfg } with prepared := true }

theorem bodyPrepare_eq (r : Running) (s : State) :
    bodyPrepare r s = .next { prepareUnits r.snap.par { s with prep := r.cfg } with prepared := true } := by
  rw [bodyPrepare, deriveUnits_resetUnits]

theorem exec_prepare {s : State} (idle : s.run = none) (config : cfgOk s.cfg = true) :
    exec .prepare s = .next (afterPrepare s) := by
  have passed : commandCheck .prepare s = none := checkConfig_none.2 config
  rw [exec_command (i := .prepare) rfl, passed, issue_accepted (b := commandBody .prepare) idle (bodyPrepare_eq _ _)]
  simp [complete, afterPrepare, prepareUnits, finish, running, accept, idle]

/-- Settles O22: unit by unit, from the entries of the tables. -/
theorem prepareEffect : Obligations.PrepareEffect := by
  intro s idle config
  refine ⟨afterPrepare s, exec_prepare idle config, ⟨idle, rfl⟩, ⟨rfl, rfl, rfl, rfl, rfl, rfl, rfl, rfl, rfl, rfl, rfl⟩,
    rfl, rfl, rfl, rfl, rfl, rfl, rfl, fun c _ => vget_replicate _, rfl, rfl, fun b hb => vget_tab _ _ hb, rfl,
    fun n hn => ⟨?buf, vget_tab _ _ hn⟩, fun k hk => ⟨?spec, vget_tab _ _ hk⟩, rfl, rfl, fun inst hi => ?fir, rfl⟩
  case buf => exact (vget_lt _ _ hn).trans (Vector.getElem_replicate hn)
  case spec => exact (vget_lt _ _ hk).trans (Vector.getElem_replicate hk)
  case fir => exact (vget_lt _ _ hi).trans (Vector.getElem_replicate hi)

/-- Settles O23: what PREPARE leaves is a function of registers it keeps. -/
theorem prepareTwice : Obligations.PrepareTwice := by
  intro s t idle config h
  obtain rfl := Host.Outcome.next.inj ((exec_prepare idle config).symm.trans h)
  have again : afterPrepare (afterPrepare s) = afterPrepare s := rfl
  rw [exec_prepare (s := afterPrepare s) idle config, again]

end Sys2Proof.Machine
end

section
/-!
PROOFS. The control registers (R79 to R83, R175): what a STATUS write clears, what the interrupt output follows, the
bits of STATUS, and the writes the map refuses.
-/

namespace Sys2Proof.Machine

/-! ## Writes (R79 to R82) -/

/-- Settles O26: with bit 2 the error registers are cleared first, without it they stay. -/
theorem statusWriteOneToClear : Obligations.StatusWriteOneToClear := by
  intro w s
  show Host.Outcome.next (clearStatus w s) = _
  cases bit : w.getLsbD 2 with
  | false => simp only [clearStatus, bit, Bool.false_eq_true, if_false, Bool.not_false, Bool.and_true]
  | true => simp only [clearStatus, bit, if_true, Bool.not_true, Bool.and_false, clearError]

/-- Settles O28: the word goes into the register. -/
theorem plainControlWrites : Obligations.PlainControlWrites :=
  fun _ _ => ⟨rfl, rfl, rfl, rfl⟩

/-- The implemented bits of IRQ_EN are those the interrupt output reads (R28, R175). -/
theorem irqMask_bits (w : Word) : (w &&& irqMask).getLsbD 1 = w.getLsbD 1 ∧ (w &&& irqMask).getLsbD 2 = w.getLsbD 2 ∧
    (w &&& irqMask).getLsbD 5 = w.getLsbD 5 := by
  simp [irqMask]

/-- Settles O27: the output reads the enables the mask keeps. -/
theorem interruptOutput : Obligations.InterruptOutput := by
  refine ⟨fun _ => rfl, fun _ _ _ => rfl, fun w s => ⟨_, rfl, rfl, ?_⟩⟩
  obtain ⟨done, err, specNew⟩ := irqMask_bits w
  rw [← done, ← err, ← specNew]
  rfl

/-! ## Reads (R83) -/

/-- The flags in STATUS, each in its place (R83). -/
theorem statusWord_bits (s : State) :
    (statusWord s).getLsbD 0 = s.run.isSome ∧ (statusWord s).getLsbD 1 = s.done ∧
    (statusWord s).getLsbD 2 = s.err ∧ (statusWord s).getLsbD 3 = s.nonfinite ∧
    (statusWord s).getLsbD 4 = s.pnan ∧ (statusWord s).getLsbD 5 = s.specNew ∧
    (statusWord s).getLsbD 6 = s.prepared ∧ (statusWord s).getLsbD 7 = s.lm.targetValid := by
  simp only [statusWord, BitVec.getLsbD_append, busy]
  simp

theorem statusWord_reserved (s : State) : (statusWord s).extractLsb' 8 24 = 0 := by
  apply BitVec.eq_of_getLsbD_eq
  intro i hi
  simp only [statusWord, BitVec.getLsbD_append, BitVec.getLsbD_extractLsb', hi]
  simp

/-- The read-only control registers (R83). -/
def readOnlyRegisters : List (BitVec 18) := [0x000, 0x004, 0x010, 0x014, 0x020, 0x040, 0x044, 0x048]

/-- No mask of R66 matches the key of a write to a read-only register. -/
theorem readOnly_unmatched {a : BitVec 18} (readOnly : a ∈ readOnlyRegisters) (w : Word) :
    MaskTable.find MaskTable.bus (BitVec.ofBool true ++ a) w = none := by
  have unmatched : ∀ a ∈ readOnlyRegisters, ∀ row ∈ MaskTable.bus,
      ¬((BitVec.ofBool true ++ a) &&& row.mask == row.pattern) = true :=
    List.forall_iff_forall_mem.1 (by decide +kernel)
  rw [MaskTable.find, Option.map_eq_none_iff, List.find?_eq_none]
  exact unmatched a readOnly

/-- A write to a read-only register is refused (R46, R83). -/
theorem step_write_readOnly {a : BitVec 18} {w : Word} {s : State} {rest : List Event}
    (readOnly : a ∈ readOnlyRegisters) (pending : s.inbox = .access (.bus ⟨true, a, 4, w⟩) :: rest) :
    step s = .next (raise .badAddr (0#14 ++ a) { s with inbox := rest }) := by
  have aligned : ∀ a ∈ readOnlyRegisters, a.extractLsb' 0 2 = 0 :=
    List.forall_iff_forall_mem.1 (by decide)
  obtain ⟨-, refused⟩ := refusedAccesses.1 ⟨true, a, 4, w⟩ s rest pending
  exact refused rfl (aligned a readOnly) (readOnly_unmatched readOnly w)

/-- Settles O29: the reads give their words, the words their fields. -/
theorem controlReads : Obligations.ControlReads := by
  intro s
  obtain ⟨b0, b1, b2, b3, b4, b5, b6, b7⟩ := statusWord_bits s
  refine ⟨rfl, rfl, rfl, ⟨statusWord s, rfl, b0, b1, b2, b3, b4, b5, b6, b7, statusWord_reserved s⟩,
    rfl, rfl, rfl, rfl, rfl, rfl, rfl, rfl, rfl, rfl, rfl, fun a readOnly w rest => step_write_readOnly readOnly⟩

end Sys2Proof.Machine
end

section
/-!
PROOFS. The parameter registers (R85 to R101): what the shared write procedures store, register by register, and the
words the reads give.
-/

namespace Sys2Proof.Machine

/-! ## What a write of a float parameter leaves (R85, R94, R95, R173) -/

section FloatWrites

variable {set : F32 → Params → Params} {lo hi : F32} {w : Word} {s : State}

theorem writeFloat_of_nan (nan : Fp.isNaN w = true) : writeFloat set lo hi w s = { s with pnan := true } :=
  if_pos nan

theorem writeFloat_of_number (number : Fp.isNaN w = false) :
    writeFloat set lo hi w s = { s with par := set (Fp.clamp w lo hi) s.par } :=
  if_neg (Bool.eq_false_iff.1 number)

theorem writeCutoff_of_nan (nan : Fp.isNaN w = true) : writeCutoff set w s = { s with pnan := true } :=
  if_pos nan

theorem writeCutoff_of_number (number : Fp.isNaN w = false) :
    writeCutoff set w s = { s with par := set w s.par } :=
  if_neg (Bool.eq_false_iff.1 number)

end FloatWrites

/-- Settles O30: six registers through `WRITE_F` with their ranges, the two cutoffs as written. -/
theorem floatParameterWrites : Obligations.FloatParameterWrites := by
  intro w s
  refine ⟨fun nan => ?_, fun number => ?_⟩
  · refine ⟨?_, ?_, ?_, ?_, ?_, ?_, ?_, ?_⟩
    iterate 6 exact congrArg _ (writeFloat_of_nan nan)
    iterate 2 exact congrArg _ (writeCutoff_of_nan nan)
  · refine ⟨?_, ?_, ?_, ?_, ?_, ?_, ?_, ?_⟩
    iterate 6 exact congrArg _ (writeFloat_of_number number)
    iterate 2 exact congrArg _ (writeCutoff_of_number number)

/-! ## What a write of an integer or boolean parameter stores (R86, R87) -/

/-- The clamp over the integers is the clamp by signed comparisons of words. -/
theorem clampInt_eq_slt {hi : Nat} (w : Word) (small : hi < 2 ^ 31) :
    clampInt hi w = if w.slt 0 then 0#32 else if (BitVec.ofNat 32 hi).slt w then BitVec.ofNat 32 hi else w := by
  have zero : (0 : Word).toInt = 0 := rfl
  have bound : (BitVec.ofNat 32 hi).toInt = hi := by
    rw [BitVec.toInt_ofNat', Int.bmod_eq_of_le] <;> omega
  simp only [clampInt, BitVec.slt_iff_toInt_lt, zero, bound, gt_iff_lt]
  by_cases negative : w.toInt < 0
  · have notAbove : ¬(hi : Int) < 0 := by omega
    simp only [if_pos negative, if_neg notAbove, BitVec.ofInt_ofNat]
  · simp only [if_neg negative, apply_ite (BitVec.ofInt 32), BitVec.ofInt_natCast, BitVec.ofInt_toInt]

/-- Bit 0, kept by a mask or taken out and extended. -/
theorem and_one_eq_bit_zero (w : Word) : w &&& 1#32 = (w.extractLsb' 0 1).zeroExtend 32 := by
  rw [BitVec.and_one_eq_setWidth_ofBool_getLsbD]
  congr 1
  ext i hi
  obtain rfl : i = 0 := by omega
  simp

/-- Settles O32: the bound of both integer registers is 4. -/
theorem integerAndBooleanWrites : Obligations.IntegerAndBooleanWrites := by
  intro w s n b
  have int (set : Word → Params → Params) : writeInt set 4 w s = { s with par := set n s.par } :=
    congrArg (fun x => { s with par := set x s.par }) (clampInt_eq_slt w (by decide))
  have bool (set : Word → Params → Params) : writeBool set w s = { s with par := set b s.par } :=
    congrArg (fun x => { s with par := set x s.par }) (and_one_eq_bit_zero w)
  exact ⟨congrArg _ (int _), congrArg _ (int _), congrArg _ (bool _), congrArg _ (bool _), congrArg _ (bool _)⟩

/-! ## Reads (R101) -/

/-- Settles O33: each read is `give` of its register. -/
theorem parameterReads : Obligations.ParameterReads :=
  fun _ => ⟨rfl, rfl, rfl, rfl, rfl, rfl, rfl, rfl, rfl, rfl, rfl, rfl, rfl⟩

end Sys2Proof.Machine
end

section
/-!
PROOFS. The waveshaper (R103 to R115) and the five unit resets: one sample written out, the algorithms by their
pseudocode with their limits, WS_CURVE, and WS_PROCESS on a finite block as a loop whose pass `c` touches channel `c`
alone.
-/

namespace Sys2Proof.Machine

open Sys2Proof.Safety

/-! ## One sample (R104, R105, R113) -/

/-- Oversampling touches neither the other filter's state nor the output meters (R107). -/
theorem wsOversampled_frame (p : WsSetup) (ch : WsChan) (us : List F32) :
    (wsOversampled p ch us).1.osDown = ch.osDown ∧ (wsOversampled p ch us).1.outMs = ch.outMs ∧
    (wsOversampled p ch us).1.outPk = ch.outPk := by
  induction us generalizing ch with
  | nil => exact ⟨rfl, rfl, rfl⟩
  | cons u us ih =>
    obtain ⟨dn, ms, pk⟩ := ih (algorithm p.alg ch (Fp.mul p.gain u)).1
    obtain ⟨-, dn1, -, -, ms1, pk1⟩ := algorithm_frame p.alg ch (Fp.mul p.gain u)
    exact ⟨dn.trans dn1, ms.trans ms1, pk.trans pk1⟩

/-- Settles O44: the up-sampler gives four values, each goes through the algorithm in turn, and no call touches the
down-sampler or the output meters. -/
theorem wsSampleRule : Obligations.WsSampleRule := by
  intro p ch ch' x y h
  obtain ⟨u0, u1, u2, u3, four⟩ := Open.osUp_four ch.osUp x
  obtain ⟨dn, ms, pk⟩ := wsOversampled_frame p { ch with
    inMs := meterMs p.aRms ch.inMs x, inPk := meterPk p.aPk ch.inPk x, osUp := (Open.osUp ch.osUp x).1 }
    [u0, u1, u2, u3]
  unfold wsSample at h
  simp only [four, dn, ms, pk] at h
  obtain ⟨rfl, rfl⟩ := Prod.mk.inj h
  exact ⟨u0, u1, u2, u3, _, _, _, _, _, _, _, _, _, _, _, Prod.ext rfl four, rfl, rfl, rfl, rfl, rfl, rfl, rfl⟩

/-! ## The algorithms (R107 to R112, R115) -/

theorem neg_tubeLim : Fp.neg Config.tubeLim = 0xBF733333#32 := by decide
theorem neg_tapeLim : Fp.neg Config.tapeLim = 0xBF666666#32 := by decide
theorem neg_xsLim : Fp.neg Config.xsLim = 0xBF733333#32 := by decide
theorem neg_diodeLim : Fp.neg Config.diodeLim = 0xBF7AE148#32 := by decide
theorem neg_fuzzLim : Fp.neg Config.fuzzLim = 0xBF59999A#32 := by decide

/-- A value clamped to `-lim .. lim` is a NaN or within (R11, R115). -/
theorem Fp.clamp_limited (x : F32) {lim : F32} (number : Fp.isNaN lim = false ∧ Fp.isNaN (Fp.neg lim) = false)
    (order : Fp.lt lim (Fp.neg lim) = false) : Fp.isNaN (Fp.clamp x (Fp.neg lim) lim) = true ∨
      inRange (Fp.neg lim) lim (Fp.clamp x (Fp.neg lim) lim) = true := by
  cases nan : Fp.isNaN x with
  | true => exact .inl ((Fp.clamp_nan _ _ nan).symm ▸ nan)
  | false => exact .inr (Fp.clamp_inRange nan number.2 number.1 order)

/-- The limit of each algorithm (R108 to R112). -/
def algLimits : List (Nat × F32) :=
  [(0, Config.tubeLim), (1, Config.tapeLim), (2, Config.xsLim), (3, Config.diodeLim), (4, Config.fuzzLim)]

/-- The output of an algorithm is a value clamped to its limit. -/
theorem algorithm_clamps (ch : WsChan) (v : F32) : ∀ a ∈ algLimits, ∃ x,
    (algorithm a.1 ch v).2 = Fp.clamp x (Fp.neg a.2) a.2 := by
  simp only [algLimits, List.forall_mem_cons]
  exact ⟨⟨_, rfl⟩, ⟨_, rfl⟩, ⟨_, rfl⟩, ⟨_, rfl⟩, ⟨_, rfl⟩, nofun⟩

/-- The limits are numbers, each above its negative. -/
theorem algLimits_order : ∀ a ∈ algLimits, (Fp.isNaN a.2 = false ∧ Fp.isNaN (Fp.neg a.2) = false) ∧
    Fp.lt a.2 (Fp.neg a.2) = false := by decide

/-- The output of each algorithm is a NaN or within its limit (R115). -/
theorem algorithm_limited (ch : WsChan) (v : F32) {a : Nat × F32} (h : a ∈ algLimits) :
    Fp.isNaN (algorithm a.1 ch v).2 = true ∨ inRange (Fp.neg a.2) a.2 (algorithm a.1 ch v).2 = true := by
  obtain ⟨x, clamped⟩ := algorithm_clamps ch v a h
  obtain ⟨number, order⟩ := algLimits_order a h
  rw [clamped]
  exact Fp.clamp_limited x number order

/-- Settles O45: the definitions with every constant evaluated, and Tube's stages by `Open.tubePath_eq`. -/
theorem algorithmCellsAndBounds : Obligations.AlgorithmCellsAndBounds := by
  intro ch v
  refine ⟨?tube, ?tape, ?transistor, ?diode, ?fuzz, fun alg lim h => algorithm_limited ch v (a := (alg, lim)) h⟩
  case tube =>
    show tube ch v = _
    rw [tube, neg_tubeLim, Open.tubePath_eq]
    rfl
  case tape =>
    show tape ch v = _
    rw [tape, neg_tapeLim]
    rfl
  case transistor =>
    show transistor ch v = _
    rw [transistor, neg_xsLim]
    rfl
  case diode =>
    show diode ch v = _
    rw [diode, neg_diodeLim]
    rfl
  case fuzz =>
    show fuzz ch v = _
    rw [fuzz, neg_fuzzLim]
    rfl

/-! ## WS_CURVE (R114) -/

/-- The rule on a finite `ARG`: `NONF` stays clear, so the value is not replaced (R172). -/
theorem wsCurve_rule {s : State} (finite : Fp.isFinite s.arg = true) (w : Word) :
    commandBody .wsCurve (running w s) (accept w s) =
      .next { note [s.arg] (accept w s) with result := wsCurveValue ⟨s.par, s.arg⟩ } := by
  have clear : (note [s.arg] (accept w s)).nonf = false := by simp [note_nonf, finite]
  exact congrArg Host.Outcome.next
    (settle_finite (t := { note [s.arg] (accept w s) with result := wsCurveValue ⟨s.par, s.arg⟩ }) clear)

/-- Settles O46: the rule on a finite `ARG`, between acceptance and completion. -/
theorem wsCurveEffect : Obligations.WsCurveEffect := by
  intro s idle prepared finite
  have passed : commandCheck .wsCurve s = none := by simp [commandCheck, checkPrepared, prepared]
  have finishes (w : Word) : complete { note [s.arg] (accept w s) with result := wsCurveValue ⟨s.par, s.arg⟩ } =
      { s with result := wsCurveValue ⟨s.par, s.arg⟩, done := true, nonf := false } := by
    simp [complete, note, accept, finite, idle]
  rw [exec_command (i := .wsCurve) rfl, passed, issue_accepted idle (wsCurve_rule finite _), finishes]
  rfl

/-! ## The unit resets (R103, R118, R131, R142, R150) -/

/-- Settles O24: each is its update with DONE set; the equaliser's bands and the filter pairs by their entries. -/
theorem unitResets : Obligations.UnitResets := by
  intro s idle
  refine ⟨exec_wsReset idle, ⟨_, exec_peqReset idle, rfl, rfl, fun b hb => ?band⟩, exec_spaReset idle,
    fun inst hi => ⟨_, exec_firReset inst idle, rfl, firInst_resetState s hi, fun j hj => ?other⟩, exec_lmReset idle⟩
  case band => exact vget_tab _ _ hb
  case other => exact firInst_resetState_other s hj

/-! ## Loops over the channels -/

/-- A channel's samples processed in order and stored are a run of the step from the old samples to the new. -/
theorem runs_writeBlock {σ : Type} (step : σ → F32 → σ × F32) (a : σ) (s t : State) (c ns : Nat) :
    Runs step ns (sampleAt s c) (sampleAt (writeBlock c (mapAccum step a (readBlock s c ns)).2 t) c) a
      (mapAccum step a (readBlock s c ns)).1 := by
  have run := mapAccum_runs step a (readBlock s c ns)
  rw [readBlock_length] at run
  exact Runs_congr run (fun i hi => (readBlock_getD s c hi).symm)
    (fun i hi => sampleAt_writeBlock_same _ _ _ (by simpa using hi))

/-- Pass `c` sends the samples of channel `c` through `step`, from the channel's cells to its new cells, touches no
other channel's, and notes the samples it read. -/
structure ChannelPass {σ : Type} (step : σ → F32 → σ × F32) (ns : Nat) (cells : State → Nat → σ)
    (pass : Nat → State → State) : Prop where
  runs : ∀ {c} s, c < Config.cMax →
    Runs step ns (sampleAt s c) (sampleAt (pass c s) c) (cells s c) (cells (pass c s) c)
  otherCells : ∀ {c d} s, c ≠ d → cells (pass c s) d = cells s d
  otherSample : ∀ {c d i} s, c ≠ d → i < ns → sampleAt (pass c s) d i = sampleAt s d i
  noted : ∀ c s, (pass c s).nonf = (note (readBlock s c ns) s).nonf

namespace ChannelPass

variable {σ : Type} {step : σ → F32 → σ × F32} {n c ns : Nat} {cells : State → Nat → σ} {pass : Nat → State → State}

/-- Every channel of the loop finds its samples and cells as they were before the first. -/
theorem loop_runs (h : ChannelPass step ns cells pass) (s : State) (hc : c < n) (hn : n ≤ Config.cMax) :
    Runs step ns (sampleAt s c) (sampleAt (each n pass s) c) (cells s c) (cells (each n pass s) c) := by
  have own (j : Nat) (t : State) (hj : j ≠ c) : cells (pass j t) c = cells t c := h.otherCells t hj
  have sample {i : Nat} (hi : i < ns) (j : Nat) (t : State) (hj : j ≠ c) :
      sampleAt (pass j t) c i = sampleAt t c i := h.otherSample t hj hi
  have run := h.runs (each c pass s) (Nat.lt_of_lt_of_le hc hn)
  rw [each_before (g := fun t => cells t c) own (Nat.le_refl c) s] at run
  rw [each_after (g := fun t => cells t c) own hc s]
  exact Runs_congr run
    (fun i hi => (each_before (g := fun t => sampleAt t c i) (sample hi) (Nat.le_refl c) s).symm)
    (fun i hi => each_after (g := fun t => sampleAt t c i) (sample hi) hc s)

/-- A channel past the loop keeps its cells. -/
theorem loop_otherCells (h : ChannelPass step ns cells pass) (s : State) (hc : n ≤ c) :
    cells (each n pass s) c = cells s c :=
  each_before (g := fun t => cells t c) (fun _ t hj => h.otherCells t hj) hc s

/-- The loop over finite samples sets nothing: a channel's samples are read before they are replaced. -/
theorem loop_finite (h : ChannelPass step ns cells pass) {s : State} (finite : FiniteBlock ns s) :
    (each (chans s) pass s).nonf = s.nonf := by
  refine (each_induct (p := fun k t =>
    (∀ c, k ≤ c → ∀ i, i < ns → sampleAt t c i = sampleAt s c i) ∧ t.nonf = s.nonf)
    ⟨fun _ _ _ _ => rfl, rfl⟩ ?_).2
  rintro k t hk ⟨unread, same⟩
  constructor
  · intro c hc i hi
    rw [h.otherSample t (by omega) hi, unread c (by omega) i hi]
  · rw [h.noted, note_finite fun i hi => ?_, same]
    rw [unread k (Nat.le_refl k) i hi]
    exact finite k hk i hi

end ChannelPass

/-! ## WS_PROCESS on a finite block (R104) -/

/-- A channel's cells (R33). -/
abbrev wsCells (s : State) (c : Nat) : WsChan := vget s.ws.chan c WsChan.zero

theorem wsChannel_runs (p : WsSetup) (ns : Nat) {c : Nat} (s : State) (hc : c < Config.cMax) :
    Runs (wsSample p) ns (sampleAt s c) (sampleAt (wsChannel p ns c s) c) (wsCells s c)
      (wsCells (wsChannel p ns c s) c) := by
  have last : wsCells (wsChannel p ns c s) c = (mapAccum (wsSample p) (wsCells s c) (readBlock s c ns)).1 :=
    vget_vset_same _ _ _ hc
  rw [last]
  exact runs_writeBlock _ _ s _ c ns

/-- One channel of WS_PROCESS is such a pass. -/
theorem wsChannel_pass (p : WsSetup) {ns : Nat} (hn : ns ≤ Config.nMax) :
    ChannelPass (wsSample p) ns wsCells (wsChannel p ns) where
  runs s hc := wsChannel_runs p ns s hc
  otherCells _ h := vget_vset_other _ _ _ (Ne.symm h)
  otherSample s h hi := sampleAt_writeBlock_other _ _ _ _ (Ne.symm h)
    (by rw [mapAccum_length, readBlock_length]; exact hn) (Nat.lt_of_lt_of_le hi hn)
  noted _ _ := rfl

/-- The meter coefficients stay (R102, R104). -/
theorem wsProcess_coefficients (par : Params) (ns : Nat) (s : State) :
    (wsProcess par ns s).ws.aRms = s.ws.aRms ∧ (wsProcess par ns s).ws.aPk = s.ws.aPk :=
  ⟨each_field (f := wsChannel (wsSetup par s.ws) ns) (g := fun t => t.ws.aRms) (fun _ _ => rfl) s,
    each_field (f := wsChannel (wsSetup par s.ws) ns) (g := fun t => t.ws.aPk) (fun _ _ => rfl) s⟩

/-- On a finite block WS_PROCESS is its rule with the parameter registers (R104). -/
theorem exec_wsProcess_finite {ns : Nat} {s : State} (hr : Ready ns s) (hf : FiniteBlock ns s) :
    ∃ w, exec (.wsProcess ns) s = .next (complete (wsProcess s.par ns (accept w s))) ∧
      (wsProcess s.par ns (accept w s)).nonf = false := by
  obtain ⟨w, hw⟩ := (blockLength_command (i := .wsProcess ns) rfl).1
  have mapped := ready_mapped hr
  have finite : (wsProcess s.par ns (accept w s)).nonf = false := (wsChannel_pass _ mapped.2).loop_finite hf
  refine ⟨w, exec_ready hr rfl hw ?_, finite⟩
  rw [← settle_finite (s := accept w s) finite]
  exact onSamples_next mapped.1 mapped.2

/-- Settles O43: the frame is that of every block command, the effect that of the loop over the channels. -/
theorem wsProcessEffect : Obligations.WsProcessEffect := by
  intro ns s hr hf setup
  obtain ⟨w, hexec, finite⟩ := exec_wsProcess_finite hr hf
  obtain ⟨t, ht, hdone, hcontrol, hprep, hresult, houtside⟩ := block_completes (i := .wsProcess ns) hr rfl
  obtain rfl := Host.Outcome.next.inj (ht.symm.trans hexec)
  obtain ⟨hrms, hpk⟩ := wsProcess_coefficients s.par ns (accept w s)
  have mapped := ready_mapped hr
  have pass : ChannelPass (wsSample setup) ns wsCells (wsChannel setup ns) := wsChannel_pass setup mapped.2
  exact ⟨_, hexec, hdone, hcontrol, hprep, by simp [finite], by simp, hrms, hpk,
    fun c hc => pass.loop_runs (accept w s) hc mapped.1,
    fun c hc => pass.loop_otherCells (accept w s) hc,
    by simp, by simp, by simp, by simp, hresult, houtside⟩

end Sys2Proof.Machine
end

section
/-!
PROOFS. Units switched off (R128, R143 to R145): a rule that changes nothing reads no sample, so its command is answered
by the state before it with DONE set.
-/

namespace Sys2Proof.Machine

open Sys2Proof.Safety

/-- Putting an entry back where it stands changes nothing. -/
theorem vset_vget {α : Type} {n : Nat} (v : Vector α n) (i : Nat) (d : α) : vset v i (vget v i d) = v := by
  refine Vector.ext fun j hj => ?_
  by_cases same : i = j
  · subst same
    simp [vset, vget, hj]
  · simp [vset, same]

/-- A filter that is bypassed is not redesigned (R145). -/
theorem lowStale_bypassed {par : Params} {fs : F32} (f : FirInst) (h : lowBypass par fs = true) :
    lowStale par fs f = false := by
  simp [lowStale, h]

@[inherit_doc lowStale_bypassed]
theorem highStale_bypassed {par : Params} {fs : F32} (f : FirInst) (h : highBypass par = true) :
    highStale par fs f = false := by
  simp [highStale, h]

/-- With both filters bypassed the gate keeps both designs (R145). -/
theorem redesign_bypassed {par : Params} {fs : F32} (f : FirInst) (low : lowBypass par fs = true)
    (high : highBypass par = true) : redesign par fs f = f := by
  simp [redesign, lowStale_bypassed f low, highStale_bypassed f high]

theorem peqProcess_disabled {par : Params} (ns : Nat) (s : State) (h : par.eqEn = 0) : peqProcess par ns s = s :=
  if_pos h

theorem firProcess_disabled {par : Params} (ns inst : Nat) (s : State) (h : par.filterEn = 0) :
    firProcess par ns inst s = s :=
  if_pos h

/-- Bypassed as a whole, the pair keeps its designs and no channel is processed (R143, R144). -/
theorem firProcess_bypassed {par : Params} (ns inst : Nat) {s : State} (low : lowBypass par s.prep.fs = true)
    (high : highBypass par = true) : firProcess par ns inst s = s := by
  have kept : vset s.fir inst (redesign par s.prep.fs (firInst s inst)) = s.fir := by
    rw [redesign_bypassed _ low high]
    exact vset_vget s.fir inst FirInst.reset
  unfold firProcess
  split
  · rfl
  · simp [low, high, kept]

/-- Ready, a block command whose rule changes nothing sets DONE and nothing else: nothing was read, so nothing it
would have written is free (R75, R172). -/
theorem exec_rule_unchanged {i : Instr} {ns : Nat} {s : State} {g : State → State} (hr : Ready ns s)
    (hi : blockLength i = some ns)
    (rule : ∀ w, ∃ free, commandBody i (running w s) (accept w s) =
      onSamples ns (accept w s) (settle free (accept w s) (g (accept w s))))
    (unchanged : ∀ w, g (accept w s) = accept w s) : exec i s = .next (finish s) := by
  obtain ⟨w, hw⟩ := (blockLength_command hi).1
  have mapped := ready_mapped hr
  have body : commandBody i (running w s) (accept w s) = .next (accept w s) := by
    obtain ⟨free, settled⟩ := rule w
    rw [settled, unchanged, settle_finite (s := accept w s) (t := accept w s) rfl]
    exact onSamples_next mapped.1 mapped.2
  have finishes : complete (accept w s) = finish s := by
    simp [complete, accept, finish, hr.idle]
  rw [exec_ready hr hi hw body, finishes]

/-- Settles O51: the parameters acceptance captures are the registers, under which each rule is the identity. -/
theorem unitsSwitchedOff : Obligations.UnitsSwitchedOff := by
  intro ns s hr
  constructor
  · intro off
    exact exec_rule_unchanged (g := peqProcess s.par ns) hr rfl (fun _ => ⟨_, rfl⟩)
      fun w => peqProcess_disabled ns (accept w s) off
  · intro inst _ off
    refine exec_rule_unchanged (g := firProcess s.par ns inst) hr rfl (fun _ => ⟨_, rfl⟩) fun w => ?_
    obtain disabled | ⟨low, high⟩ := off
    · exact firProcess_disabled ns inst (accept w s) disabled
    · exact firProcess_bypassed ns inst (s := accept w s) low high

end Sys2Proof.Machine
end

section
/-!
PROOFS. SPA_PRODUCE on a finite block (R132 to R135): what one sample does to the analyser, and what holds of the
buffer, the position, the count and the spectrum after any number of them.
-/

namespace Sys2Proof.Machine

open Sys2Proof.Safety

/-! ## One sample (R133) -/

section Push

variable (a : SpaState) (x : F32)

theorem wpos_wraps_iff : a.wpos + 1 = 0 ↔ (a.wpos.toNat + 1) % 2048 = 0 := by
  rw [← BitVec.toNat_inj]
  simp

/-- The state a sample leaves before any analysis: stored, and the position advanced. -/
def spaStore : SpaState := { a with buf := vset a.buf a.wpos.toNat x, wpos := a.wpos + 1 }

theorem spaPush_eq : spaPush a x =
    if (a.wpos.toNat + 1) % 2048 = 0 then analyse (spaStore a x) else spaStore a x :=
  if_congr (wpos_wraps_iff a) rfl rfl

@[simp] theorem spaPush_buf : (spaPush a x).buf = vset a.buf a.wpos.toNat x := by
  rw [spaPush_eq]; split <;> rfl

@[simp] theorem spaPush_wpos : (spaPush a x).wpos = a.wpos + 1 := by
  rw [spaPush_eq]; split <;> rfl

@[simp] theorem spaPush_win : (spaPush a x).win = a.win := by
  rw [spaPush_eq]; split <;> rfl

@[simp] theorem spaPush_binfreq : (spaPush a x).binfreq = a.binfreq := by
  rw [spaPush_eq]; split <;> rfl

/-- Where the position does not wrap nothing is analysed. -/
theorem spaPush_before_wrap (h : (a.wpos.toNat + 1) % 2048 ≠ 0) :
    (spaPush a x).spec = a.spec ∧ (spaPush a x).count = a.count := by
  rw [spaPush_eq, if_neg h]
  exact ⟨rfl, rfl⟩

/-- An analysis replaces neither the buffer nor the window. -/
theorem windowed_analyse : windowed (analyse a) = windowed a := by simp only [windowed, analyse]

/-- Where it wraps the buffer with the new sample is analysed, and the analysis counted (R134). -/
theorem spaPush_at_wrap (h : (a.wpos.toNat + 1) % 2048 = 0) :
    (spaPush a x).spec = tab Config.spaBins (spectrumAt (windowed (spaPush a x))) ∧
    (spaPush a x).count = a.count + 1 := by
  rw [spaPush_eq, if_pos h, windowed_analyse]
  exact ⟨rfl, rfl⟩

end Push

/-! ## The spectrum of the windowed buffer (R134, R135) -/

theorem windowed_eq (a : SpaState) :
    windowed a = (List.range 2048).map fun j => Fp.mul (vget a.win j 0) (vget a.buf j 0) := by
  have len : Config.spaLen = 2048 := rfl
  refine List.ext_getElem (by simp [windowed, len]) fun j hj _ => ?_
  have inside : j < Config.spaLen := by simpa [windowed] using hj
  simp [windowed, vget_lt _ _ inside]

theorem spectrumAt_eq (z : List F32) (k : Nat) :
    spectrumAt z k = Fp.mul (Fp.div (Fp.sqrt (Fp.add (Fp.mul (Open.dft2048 z k).1 (Open.dft2048 z k).1)
      (Fp.mul (Open.dft2048 z k).2 (Open.dft2048 z k).2))) 0x45000000#32) 0x40000000#32 := by
  have len : Fp.ofInt ((Config.spaLen : Nat) : Int) = 0x45000000#32 := by decide +kernel
  rw [spectrumAt, magnitude, len]
  rfl

/-! ## A block of samples (R133) -/

/-- The analyser after the samples `x 0 .. x (n-1)`. -/
def spaFill (a : SpaState) (x : Nat → F32) (n : Nat) : SpaState := each n (fun i b => spaPush b (x i)) a

theorem spaFeed_spa (ns : Nat) (s : State) : (spaFeed ns s).spa = spaFill s.spa (mono s) ns :=
  List.foldl_map

section Fill

variable (a : SpaState) (x : Nat → F32)

theorem spaFill_succ (n : Nat) : spaFill a x (n + 1) = spaPush (spaFill a x n) (x n) := each_succ _ _ _

theorem spaFill_win (n : Nat) : (spaFill a x n).win = a.win :=
  each_field (g := SpaState.win) (fun _ _ => spaPush_win _ _) a

theorem spaFill_binfreq (n : Nat) : (spaFill a x n).binfreq = a.binfreq :=
  each_field (g := SpaState.binfreq) (fun _ _ => spaPush_binfreq _ _) a

theorem spaFill_wpos (n : Nat) : (spaFill a x n).wpos.toNat = (a.wpos.toNat + n) % 2048 := by
  induction n with
  | zero => exact (Nat.mod_eq_of_lt a.wpos.isLt).symm
  | succ n ih =>
    rw [spaFill_succ, spaPush_wpos, BitVec.toNat_add, ih]
    exact Nat.mod_add_mod _ 2048 1

/-- Sample `n` wraps the position exactly where the count of positions passed is a multiple of the length. -/
theorem spaFill_wraps_iff (n : Nat) :
    ((spaFill a x n).wpos.toNat + 1) % 2048 = 0 ↔ (a.wpos.toNat + (n + 1)) % 2048 = 0 := by
  rw [spaFill_wpos, Nat.mod_add_mod, Nat.add_assoc]

/-- The count advances once per wrap, modulo its width. -/
theorem spaFill_count (n : Nat) :
    (spaFill a x n).count.toNat = (a.count.toNat + (a.wpos.toNat + n) / 2048) % 2 ^ 32 := by
  induction n with
  | zero =>
    have position := a.wpos.isLt
    have count := a.count.isLt
    change a.count.toNat = _
    omega
  | succ n ih =>
    rw [spaFill_succ]
    by_cases wrap : (a.wpos.toNat + (n + 1)) % 2048 = 0
    · rw [(spaPush_at_wrap _ _ ((spaFill_wraps_iff a x n).2 wrap)).2, BitVec.toNat_add, ih]
      have one : (1 : Word).toNat = 1 := rfl
      omega
    · rw [(spaPush_before_wrap _ _ (mt (spaFill_wraps_iff a x n).1 wrap)).2, ih]
      omega

/-- The last 2048 samples stand in the buffer, each at its position: no later one has come round to it. -/
theorem spaFill_written {n i : Nat} (hi : i < n) (hn : n ≤ i + 2048) :
    vget (spaFill a x n).buf ((a.wpos.toNat + i) % 2048) 0 = x i := by
  induction n with
  | zero => exact absurd hi (Nat.not_lt_zero i)
  | succ n ih =>
    rw [spaFill_succ, spaPush_buf, spaFill_wpos]
    obtain earlier | rfl := Nat.lt_succ_iff_lt_or_eq.1 hi
    · rw [vget_vset_other _ _ _ (by omega), ih earlier (by omega)]
    · exact vget_vset_same _ _ _ (Nat.mod_lt _ (by decide))

/-- An entry no sample's position names stays. -/
theorem spaFill_unwritten {n j : Nat} (h : ∀ i, i < n → (a.wpos.toNat + i) % 2048 ≠ j) :
    vget (spaFill a x n).buf j 0 = vget a.buf j 0 := by
  induction n with
  | zero => rfl
  | succ n ih =>
    rw [spaFill_succ, spaPush_buf, spaFill_wpos, vget_vset_other _ _ _ (h n (Nat.lt_succ_self n)).symm]
    exact ih fun i hi => h i (Nat.lt_succ_of_lt hi)

/-- With no wrap after the first `m` samples the spectrum is the one they left. -/
theorem spaFill_spec_kept {m n : Nat} (hmn : m ≤ n) (h : ∀ i, m < i → i ≤ n → (a.wpos.toNat + i) % 2048 ≠ 0) :
    (spaFill a x n).spec = (spaFill a x m).spec := by
  induction n, hmn using Nat.le_induction with
  | base => rfl
  | succ n hmn ih =>
    have unwrapped := mt (spaFill_wraps_iff a x n).1 (h (n + 1) (Nat.lt_succ_of_le hmn) (Nat.le_refl _))
    rw [spaFill_succ, (spaPush_before_wrap _ _ unwrapped).1]
    exact ih fun i hi hin => h i hi (Nat.le_succ_of_le hin)

/-- Where sample `m - 1` wraps the position the spectrum is that of the buffer it completes (R134). -/
theorem spaFill_spec_at_wrap {m : Nat} (hm : 0 < m) (wrap : (a.wpos.toNat + m) % 2048 = 0) :
    (spaFill a x m).spec = tab Config.spaBins (spectrumAt (windowed (spaFill a x m))) := by
  obtain ⟨m, rfl⟩ := Nat.exists_eq_succ_of_ne_zero hm.ne'
  rw [spaFill_succ]
  exact (spaPush_at_wrap _ _ ((spaFill_wraps_iff a x m).2 wrap)).1

/-- At a wrap the buffer ends with the samples fed: entry `j` is the sample fed 2048 - `j` before the wrap, or the old
entry where the block began later than that. -/
theorem spaFill_buf_at_wrap {m j : Nat} (wrap : (a.wpos.toNat + m) % 2048 = 0) (hj : j < 2048) :
    vget (spaFill a x m).buf j 0 = if 2048 ≤ m + j then x (m + j - 2048) else vget a.buf j 0 := by
  split
  next fed =>
    have place : (a.wpos.toNat + (m + j - 2048)) % 2048 = j := by omega
    have written := spaFill_written a x (n := m) (i := m + j - 2048) (by omega) (by omega)
    rwa [place] at written
  next unfed => exact spaFill_unwritten a x fun i hi => by omega

/-- The windowed buffer at a wrap, in terms of the samples fed. -/
theorem windowed_spaFill_at_wrap {m : Nat} (wrap : (a.wpos.toNat + m) % 2048 = 0) :
    windowed (spaFill a x m) = (List.range 2048).map fun j => Fp.mul (vget a.win j 0)
      (if 2048 ≤ m + j then x (m + j - 2048) else vget a.buf j 0) := by
  rw [windowed_eq, spaFill_win]
  exact List.map_congr_left fun j hj => by rw [spaFill_buf_at_wrap a x wrap (List.mem_range.1 hj)]

/-- The last wrap of a block decides its spectrum. -/
theorem spaFill_spec_last_wrap {m n : Nat} (hm : 0 < m) (hmn : m ≤ n) (last : n < m + 2048)
    (wrap : (a.wpos.toNat + m) % 2048 = 0) :
    (spaFill a x n).spec = tab Config.spaBins (spectrumAt (windowed (spaFill a x m))) := by
  rw [spaFill_spec_kept a x hmn fun i hi hin => by omega]
  exact spaFill_spec_at_wrap a x hm wrap

end Fill

/-- `SPEC_NEW` is set where the position wraps (R134). -/
theorem spaFeed_specNew (ns : Nat) (s : State) :
    (spaFeed ns s).specNew = (s.specNew || decide (2048 ≤ s.spa.wpos.toNat + ns)) := by
  have wrapped : 0 < wraps s.spa ns ↔ 2048 ≤ s.spa.wpos.toNat + ns := Nat.div_pos_iff.trans (by simp [Config.spaLen])
  change (s.specNew || decide (0 < wraps s.spa ns)) = _
  simp only [wrapped]

/-- Settles O47: the frame is that of every block command, the analyser that of the samples' averages fed in order. -/
theorem spaProduceEffect : Obligations.SpaProduceEffect := by
  intro ns s hr hf average
  obtain ⟨w, hexec⟩ := exec_spaProduce_finite hr hf
  obtain ⟨t, ht, hdone, hcontrol, hprep, hresult, -⟩ := block_completes (i := .spaProduce ns) hr rfl
  obtain rfl := Host.Outcome.next.inj (ht.symm.trans hexec)
  have finite : (spaFeed ns (accept w s)).nonf = false := spaFeed_finite hf
  have averages : mono (accept w s) = average := funext (mono_eq (s := accept w s) hr.config)
  have fed : (complete (spaFeed ns (accept w s))).spa = spaFill s.spa average ns := by
    rw [complete_spa, spaFeed_spa, averages, accept_spa]
  refine ⟨_, hexec, hdone, hcontrol, hprep, by simp [finite], by simp, by simp, by simp, by simp, by simp, hresult, ?_⟩
  rw [fed]
  refine ⟨spaFill_wpos _ _ _, spaFill_count _ _ _, spaFeed_specNew ns (accept w s), spaFill_win _ _ _,
    spaFill_binfreq _ _ _, fun i hi hn => spaFill_written _ _ hi hn, fun j hj => spaFill_unwritten _ _ hj,
    fun short => ?noWrap, ?lastWrap⟩
  case noWrap => exact spaFill_spec_kept s.spa average (Nat.zero_le ns) fun i _ _ => by omega
  case lastWrap =>
    intro m hm hmn last wrap z k hk
    rw [spaFill_spec_last_wrap _ _ hm hmn last wrap, windowed_spaFill_at_wrap _ _ wrap]
    exact (vget_tab _ _ hk).trans (spectrumAt_eq z k)

end Sys2Proof.Machine
end

section
/-!
PROOFS. The FIR pair (R143 to R146): one step written out, the redesign gate, and FIR_PROCESS running on a finite block.
No pass over a channel touches a kernel, so the loop over the channels is one with the kernels the gate left, whose
pass `c` touches channel `c` alone.
-/

namespace Sys2Proof.Machine

open Sys2Proof.Safety

/-! ## One step (R146) -/

/-- The line shifts by one, the sample first. -/
theorem vget_shiftIn {α : Type} {n : Nat} (x : α) (v : Vector α n) (d : α) {j : Nat} (hj : j < n) :
    vget (shiftIn x v) j d = if j = 0 then x else vget v (j - 1) d := by
  cases j with
  | zero => simp [vget, shiftIn, hj]
  | succ j => simp [vget, shiftIn, hj, Nat.lt_of_succ_lt hj]

/-- The taps past the first, paired with the delay line, in ascending order. -/
theorem zip_tail_toList {α β : Type} {n : Nat} (h : Vector α (n + 1)) (v : Vector β n) (d : α) (e : β) :
    List.zip h.toList.tail v.toList = (List.range n).map (fun j => (vget h (j + 1) d, vget v j e)) := by
  refine List.ext_getElem (by simp) fun j hj _ => ?_
  have hj : j < n := by simpa using hj
  simp [vget, hj]

/-- The output of a step: the ascending sum of the taps times the sample and the delay line. -/
theorem firStep_output (h : Vector F32 Config.firTaps) (dl : Vector F32 Config.firDelay) (x : F32) :
    (firStep h dl x).2 =
      (List.range Config.firDelay).foldl (fun y j => Fp.add y (Fp.mul (vget h (j + 1) 0) (vget dl j 0)))
        (Fp.mul (vget h 0 0) x) := by
  have pairs : List.zip h.toList.tail dl.toList =
      (List.range Config.firDelay).map (fun j => (vget h (j + 1) 0, vget dl j 0)) :=
    zip_tail_toList (n := Config.firDelay) h dl 0 0
  rw [firStep, pairs, List.foldl_map]

/-- Settles O53: the gate by unfolding, the step by its output and its line. -/
theorem firGateAndStep : Obligations.FirGateAndStep :=
  ⟨fun _ _ _ => rfl, fun h dl x => ⟨firStep_output h dl x, fun _ hj => vget_shiftIn x dl 0 hj⟩⟩

/-! ## What a run leaves of its state -/

/-- What no step touches of the state, a run keeps. -/
theorem Runs_keeps {σ β : Type} {f : σ → F32 → σ × F32} {n : Nat} {xs ys : Nat → F32} {a b : σ} (g : σ → β)
    (h : Runs f n xs ys a b) (kept : ∀ st x, g (f st x).1 = g st) : g b = g a := by
  obtain ⟨st, rfl, rfl, steps⟩ := h
  have upTo (i : Nat) (hi : i ≤ n) : g (st i) = g (st 0) := by
    induction i with
    | zero => rfl
    | succ i ih => rw [← ih (by omega), ← kept (st i) (xs i), steps i hi]
  exact upTo n (Nat.le_refl n)

/-! ## One channel (R143) -/

/-- The delay lines of a channel: low-cut, high-cut. -/
abbrev FirLines : Type := Vector F32 Config.firDelay × Vector F32 Config.firDelay

/-- Channel `c`'s delay lines in filter pair `inst`. -/
def firLines (inst : Nat) (s : State) (c : Nat) : FirLines :=
  (vget (firInst s inst).dlLc c noLine, vget (firInst s inst).dlHc c noLine)

/-- A filter pair with the delay lines of one channel replaced. -/
def FirInst.withLines (f : FirInst) (c : Nat) (lines : FirLines) : FirInst :=
  { f with dlLc := vset f.dlLc c lines.1, dlHc := vset f.dlHc c lines.2 }

/-- One channel through a sample rule that stays the same whatever the state's kernels. -/
def firPass (sample : FirLines → F32 → FirLines × F32) (ns inst c : Nat) (s : State) : State :=
  let r := mapAccum sample (firLines inst s c) (readBlock s c ns)
  writeBlock c r.2 (note (readBlock s c ns)
    { s with fir := vset s.fir inst ((firInst s inst).withLines c r.1) })

theorem firChannel_eq (lcBy hcBy : Bool) (ns inst c : Nat) (s : State) :
    firChannel lcBy hcBy ns inst c s = firPass (firSample lcBy hcBy (firInst s inst)) ns inst c s := rfl

section Pass

variable (sample : FirLines → F32 → FirLines × F32) (ns : Nat) {inst : Nat}

theorem firInst_firPass (c : Nat) (s : State) (hi : inst < 2) : firInst (firPass sample ns inst c s) inst =
    (firInst s inst).withLines c (mapAccum sample (firLines inst s c) (readBlock s c ns)).1 :=
  firInst_vset_same rfl hi

theorem firLines_firPass_same {c : Nat} (s : State) (hi : inst < 2) (hc : c < Config.cMax) :
    firLines inst (firPass sample ns inst c s) c =
      (mapAccum sample (firLines inst s c) (readBlock s c ns)).1 := by
  rw [firLines, firInst_firPass sample ns c s hi]
  exact Prod.ext (vget_vset_same _ _ _ hc) (vget_vset_same _ _ _ hc)

theorem firLines_firPass_other {c d : Nat} (s : State) (hi : inst < 2) (h : c ≠ d) :
    firLines inst (firPass sample ns inst c s) d = firLines inst s d := by
  rw [firLines, firInst_firPass sample ns c s hi]
  exact Prod.ext (vget_vset_other _ _ _ (Ne.symm h)) (vget_vset_other _ _ _ (Ne.symm h))

theorem firPass_runs {c : Nat} (s : State) (hi : inst < 2) (hc : c < Config.cMax) :
    Runs sample ns (sampleAt s c) (sampleAt (firPass sample ns inst c s) c) (firLines inst s c)
      (firLines inst (firPass sample ns inst c s) c) := by
  rw [firLines_firPass_same sample ns s hi hc]
  exact runs_writeBlock _ _ s _ c ns

/-- With the sample rule fixed, one channel of FIR_PROCESS touches its own samples and lines. -/
theorem firPass_pass {ns : Nat} (hi : inst < 2) (hn : ns ≤ Config.nMax) :
    ChannelPass sample ns (firLines inst) (firPass sample ns inst) where
  runs s hc := firPass_runs sample ns s hi hc
  otherCells s h := firLines_firPass_other sample ns s hi h
  otherSample _ h hlt := sampleAt_writeBlock_other _ _ _ _ (Ne.symm h)
    (by rw [mapAccum_length, readBlock_length]; exact hn) (Nat.lt_of_lt_of_le hlt hn)
  noted _ _ := rfl

end Pass

/-! ## The loop over the channels -/

/-- The kernels and realised cutoffs of a filter pair. -/
def FirInst.design (f : FirInst) : Vector F32 Config.firTaps × Vector F32 Config.firTaps × F32 × F32 :=
  (f.hLc, f.hHc, f.frLc, f.frHc)

theorem FirInst.design_eq_iff {f g : FirInst} :
    f.design = g.design ↔ f.hLc = g.hLc ∧ f.hHc = g.hHc ∧ f.frLc = g.frLc ∧ f.frHc = g.frHc := by
  simp [FirInst.design]

theorem firChannel_design (lcBy hcBy : Bool) (ns c : Nat) (s : State) {inst : Nat} (hi : inst < 2) :
    (firInst (firChannel lcBy hcBy ns inst c s) inst).design = (firInst s inst).design := by
  rw [firChannel_eq, firInst_firPass _ ns c s hi]
  rfl

/-- The filters of a sample are those of the design. -/
theorem firSample_congr {f g : FirInst} (lcBy hcBy : Bool) (h : g.design = f.design) :
    firSample lcBy hcBy g = firSample lcBy hcBy f := by
  obtain ⟨hLc, hHc, -, -⟩ := FirInst.design_eq_iff.1 h
  funext lines x
  simp only [firSample, hLc, hHc]

/-- The loop keeps the design, so that every pass runs with the sample rule of the first. -/
theorem each_firChannel_eq (lcBy hcBy : Bool) (ns n : Nat) (s : State) {inst : Nat} (hi : inst < 2) :
    each n (firChannel lcBy hcBy ns inst) s = each n (firPass (firSample lcBy hcBy (firInst s inst)) ns inst) s := by
  induction n with
  | zero => rw [each_zero, each_zero]
  | succ n ih =>
    have design : (firInst (each n (firChannel lcBy hcBy ns inst) s) inst).design = (firInst s inst).design :=
      each_field (g := fun t => (firInst t inst).design) (fun c t => firChannel_design lcBy hcBy ns c t hi) s
    rw [each_succ, each_succ, ← ih, firChannel_eq, firSample_congr lcBy hcBy design]

/-! ## FIR_PROCESS running (R143) -/

/-- The pair filters: it is enabled, and not both of its filters are bypassed (R143, R144). -/
structure FirRuns (par : Params) (fs : F32) : Prop where
  enabled : par.filterEn ≠ 0
  notBypassed : (lowBypass par fs && highBypass par) = false

/-- The state after the gate, before the channels (R145). -/
def firGated (par : Params) (inst : Nat) (s : State) : State :=
  { s with fir := vset s.fir inst (redesign par s.prep.fs (firInst s inst)) }

theorem firInst_firGated (par : Params) (s : State) {inst : Nat} (hi : inst < 2) :
    firInst (firGated par inst s) inst = redesign par s.prep.fs (firInst s inst) :=
  firInst_vset_same rfl hi

/-- The sample rule of the gate's design. -/
def gatedSample (par : Params) (inst : Nat) (s : State) : FirLines → F32 → FirLines × F32 :=
  firSample (lowBypass par s.prep.fs) (highBypass par) (redesign par s.prep.fs (firInst s inst))

section Running

variable {par : Params} {ns inst : Nat} {s : State}

/-- Enabled, with a filter that is not bypassed, the gate and then the channels. -/
theorem firProcess_channels (runs : FirRuns par s.prep.fs) :
    firProcess par ns inst s = each (chans s) (firChannel (lowBypass par s.prep.fs) (highBypass par) ns inst)
      (firGated par inst s) := by
  unfold firProcess
  rw [if_neg runs.enabled]
  dsimp only
  rw [if_neg (by simp [runs.notBypassed])]
  rfl

theorem firProcess_passes (hi : inst < 2) (runs : FirRuns par s.prep.fs) :
    firProcess par ns inst s = each (chans s) (firPass (gatedSample par inst s) ns inst) (firGated par inst s) := by
  rw [firProcess_channels runs, each_firChannel_eq _ _ ns _ _ hi, firInst_firGated par s hi, gatedSample]

/-- The designs are those of the gate. -/
theorem firProcess_design (hi : inst < 2) (runs : FirRuns par s.prep.fs) :
    (firInst (firProcess par ns inst s) inst).design = (redesign par s.prep.fs (firInst s inst)).design := by
  rw [firProcess_channels runs, ← firInst_firGated par s hi]
  exact each_field (g := fun t => (firInst t inst).design) (fun c t => firChannel_design _ _ ns c t hi) _

theorem firLines_firGated (c : Nat) (hi : inst < 2) :
    firLines inst (firGated par inst s) c = firLines inst s c := by
  rw [firLines, firInst_firGated par s hi]
  rfl

theorem firProcess_runs {c : Nat} (hi : inst < 2) (hn : ns ≤ Config.nMax) (hm : chans s ≤ Config.cMax)
    (runs : FirRuns par s.prep.fs) (hc : c < chans s) :
    Runs (gatedSample par inst s) ns (sampleAt s c) (sampleAt (firProcess par ns inst s) c)
      (firLines inst s c) (firLines inst (firProcess par ns inst s) c) := by
  rw [firProcess_passes hi runs, ← firLines_firGated (par := par) (s := s) c hi]
  exact (firPass_pass _ hi hn).loop_runs (firGated par inst s) hc hm

theorem firProcess_otherLines {c : Nat} (hi : inst < 2) (hn : ns ≤ Config.nMax) (runs : FirRuns par s.prep.fs)
    (hc : chans s ≤ c) : firLines inst (firProcess par ns inst s) c = firLines inst s c := by
  rw [firProcess_passes hi runs, ← firLines_firGated (par := par) (s := s) c hi]
  exact (firPass_pass _ hi hn).loop_otherCells (firGated par inst s) hc

theorem firProcess_finite (hi : inst < 2) (hn : ns ≤ Config.nMax) (runs : FirRuns par s.prep.fs)
    (hf : FiniteBlock ns s) : (firProcess par ns inst s).nonf = s.nonf := by
  rw [firProcess_passes hi runs]
  exact (firPass_pass _ hi hn).loop_finite (s := firGated par inst s) hf

/-- What no sample touches of the delay lines, FIR_PROCESS keeps in every channel. -/
theorem firProcess_keeps {β : Type} (g : FirLines → β) (hi : inst < 2) (hn : ns ≤ Config.nMax)
    (hm : chans s ≤ Config.cMax) (runs : FirRuns par s.prep.fs)
    (kept : ∀ lines x, g (gatedSample par inst s lines x).1 = g lines) (c : Nat) :
    g (firLines inst (firProcess par ns inst s) c) = g (firLines inst s c) := by
  rcases Nat.lt_or_ge c (chans s) with hc | hc
  · exact Runs_keeps g (firProcess_runs hi hn hm runs hc) kept
  · rw [firProcess_otherLines hi hn runs hc]

/-- A bypassed filter's lines are frozen (R143). -/
theorem firProcess_frozenLow (hi : inst < 2) (hn : ns ≤ Config.nMax) (hm : chans s ≤ Config.cMax)
    (runs : FirRuns par s.prep.fs) (low : lowBypass par s.prep.fs = true) :
    (firInst (firProcess par ns inst s) inst).dlLc = (firInst s inst).dlLc :=
  vget_ext noLine fun c _ => firProcess_keeps Prod.fst hi hn hm runs
    (fun _ _ => by simp [gatedSample, firSample, low]) c

@[inherit_doc firProcess_frozenLow]
theorem firProcess_frozenHigh (hi : inst < 2) (hn : ns ≤ Config.nMax) (hm : chans s ≤ Config.cMax)
    (runs : FirRuns par s.prep.fs) (high : highBypass par = true) :
    (firInst (firProcess par ns inst s) inst).dlHc = (firInst s inst).dlHc :=
  vget_ext noLine fun c _ => firProcess_keeps Prod.snd hi hn hm runs
    (fun _ _ => by simp [gatedSample, firSample, high]) c

/-- Running on a finite block, FIR_PROCESS is its rule with the parameter registers (R143). -/
theorem exec_firProcess_finite (hr : Ready ns s) (hf : FiniteBlock ns s) (hi : inst < 2)
    (runs : FirRuns s.par s.prep.fs) :
    ∃ w, exec (.firProcess inst ns) s = .next (complete (firProcess s.par ns inst (accept w s))) ∧
      (firProcess s.par ns inst (accept w s)).nonf = false := by
  obtain ⟨w, hw⟩ := (blockLength_command (i := .firProcess inst ns) rfl).1
  have mapped := ready_mapped hr
  have finite : (firProcess s.par ns inst (accept w s)).nonf = false :=
    firProcess_finite (s := accept w s) hi mapped.2 runs hf
  refine ⟨w, exec_ready hr rfl hw ?_, finite⟩
  rw [← settle_finite (s := accept w s) finite]
  exact onSamples_next mapped.1 mapped.2

end Running

/-- Settles O52: the sample rule filter by filter; the frame is that of every block command, the effect that of the
gate and the loop over the channels. -/
theorem firProcessEffect : Obligations.FirProcessEffect := by
  refine ⟨fun lcBy hcBy _ _ _ _ => ?sample, fun ns inst s hr hf hi enabled notBypassed => ?process⟩
  case sample => cases lcBy <;> cases hcBy <;> rfl
  case process =>
    have runs : FirRuns s.par s.prep.fs := ⟨enabled, notBypassed⟩
    obtain ⟨w, hexec, finite⟩ := exec_firProcess_finite hr hf hi runs
    obtain ⟨t, ht, hdone, hcontrol, hprep, hresult, houtside⟩ := block_completes (i := .firProcess inst ns) hr rfl
    obtain rfl := Host.Outcome.next.inj (ht.symm.trans hexec)
    obtain ⟨-, frame, -⟩ := (blockFrame ns s hr).2 (complete (firProcess s.par ns inst (accept w s)))
    obtain ⟨hws, hpeq, hspa, hlm, hnew, hother⟩ := frame inst hexec
    have mapped := ready_mapped hr
    have design : (firInst (complete (firProcess s.par ns inst (accept w s))) inst).design =
        (redesign s.par s.prep.fs (firInst s inst)).design :=
      firProcess_design (s := accept w s) hi runs
    obtain ⟨hLc, hHc, frLc, frHc⟩ := FirInst.design_eq_iff.1 design
    refine ⟨_, hexec, hdone, hcontrol, hprep, by simp [finite], hws, hpeq, hspa, hlm, hresult, hnew, houtside, hother,
      hLc, hHc, frLc, frHc, fun c hc => ?runs, fun c hc => ?otherLines, fun low => ?low, fun high => ?high⟩
    case runs => exact firProcess_runs (s := accept w s) hi mapped.2 mapped.1 runs hc
    case otherLines => exact Prod.mk.inj (firProcess_otherLines (s := accept w s) hi mapped.2 runs hc)
    case low => exact firProcess_frozenLow (s := accept w s) hi mapped.2 mapped.1 runs low
    case high => exact firProcess_frozenHigh (s := accept w s) hi mapped.2 mapped.1 runs high

end Sys2Proof.Machine
end

section
/-!
PROOFS. The loudness loop (R151 to R154): MEASURE as one run over the prepared channels, the two analyses on a finite
block, and LM_APPLY, whose gains are the iterates of the smoother whatever the channel.
-/

namespace Sys2Proof.Machine

open Sys2Proof.Safety

/-! ## A block command on a finite block -/

/-- Ready, a block command whose rule read finite samples only is that rule on the accepted state (R75, R172). -/
theorem exec_rule_finite {i : Instr} {ns : Nat} {s : State} {g : State → State} (hr : Ready ns s)
    (hi : blockLength i = some ns)
    (rule : ∀ w, ∃ free, commandBody i (running w s) (accept w s) =
      onSamples ns (accept w s) (settle free (accept w s) (g (accept w s))))
    (finite : ∀ w, (g (accept w s)).nonf = false) : ∃ w, exec i s = .next (complete (g (accept w s))) := by
  obtain ⟨w, hw⟩ := (blockLength_command hi).1
  obtain ⟨free, settled⟩ := rule w
  have mapped := ready_mapped hr
  refine ⟨w, exec_ready hr hi hw ?_⟩
  rw [settled, settle_finite (finite w)]
  exact onSamples_next mapped.1 mapped.2

/-- Noting finite samples changes nothing. -/
theorem noteAll_eq_self {ns : Nat} {s : State} (h : FiniteBlock ns s) : noteAll ns s = s := by
  refine each_induct (p := fun _ t => t = s) rfl ?_
  rintro c t hc rfl
  have unnoted := note_finite (s := t) (h c hc)
  exact congrArg (fun b => { t with nonf := b }) unnoted

/-- Acceptance and completion around a change of the loudness unit alone: DONE is set, `NONF` cleared (R74, R75). -/
theorem complete_accept_lm {s : State} (idle : s.run = none) (w : Word) (m : LmState) :
    complete { accept w s with lm := m } = { s with lm := m, done := true, nonf := false } := by
  simp [complete, accept, idle]

/-! ## MEASURE (R151) -/

theorem readBlock_succ (s : State) (c i : Nat) : readBlock s c (i + 1) = readBlock s c i ++ [sampleAt s c i] := by
  simp [readBlock, List.range_succ]

section Measure

variable (s : State) (ns : Nat) (kw : Vector KwState Config.cMax)

/-- K-weighting states and sums after the first `i` samples of channel `c`, begun with `p`'s (R151). -/
def measuredSamples (c : Nat) (p : Vector KwState Config.cMax × Sums) (i : Nat) : KwState × Sums :=
  (readBlock s c i).foldl (measureStep s.lm.kHp s.lm.kSh) (vget p.1 c KwState.zero, p.2)

/-- One channel of MEASURE. -/
def measurePass (c : Nat) (p : Vector KwState Config.cMax × Sums) : Vector KwState Config.cMax × Sums :=
  (vset p.1 c (measuredSamples s c p ns).1, (measuredSamples s c p ns).2)

/-- All K-weighting states and the sums after the first `n` channels. -/
def measuredChannels (n : Nat) : Vector KwState Config.cMax × Sums := each n (measurePass s ns) (kw, ⟨0, 0, 0⟩)

theorem measureAll_eq : measureAll s ns kw = measuredChannels s ns kw (chans s) := rfl

theorem measuredChannels_succ (c : Nat) :
    measuredChannels s ns kw (c + 1) = measurePass s ns c (measuredChannels s ns kw c) := each_succ _ _ _

theorem measuredSamples_succ (c : Nat) (p : Vector KwState Config.cMax × Sums) (i : Nat) :
    measuredSamples s c p (i + 1) =
      measureStep s.lm.kHp s.lm.kSh (measuredSamples s c p i) (sampleAt s c i) := by
  rw [measuredSamples, readBlock_succ, List.foldl_append]
  rfl

theorem measurePass_otherState (c d : Nat) (p : Vector KwState Config.cMax × Sums) (h : c ≠ d) :
    vget (measurePass s ns c p).1 d KwState.zero = vget p.1 d KwState.zero := vget_vset_other _ _ _ (Ne.symm h)

/-- A channel's K-weighting states are untouched before its pass. -/
theorem measuredChannels_before {n c : Nat} (h : n ≤ c) :
    vget (measuredChannels s ns kw n).1 c KwState.zero = vget kw c KwState.zero :=
  each_before (g := fun p : Vector KwState Config.cMax × Sums => vget p.1 c KwState.zero)
    (fun d => measurePass_otherState s ns d c) h _

/-- A channel's K-weighting states are untouched after its pass. -/
theorem measuredChannels_after {n c : Nat} (h : c < n) (hn : n ≤ Config.cMax) :
    vget (measuredChannels s ns kw n).1 c KwState.zero =
      (measuredSamples s c (measuredChannels s ns kw c) ns).1 :=
  (each_after (g := fun p : Vector KwState Config.cMax × Sums => vget p.1 c KwState.zero)
    (fun d => measurePass_otherState s ns d c) h _).trans
    (vget_vset_same _ _ _ (Nat.lt_of_lt_of_le h hn))

end Measure

/-- Settles O56: channel `c` starts from the states and sums the channels before it left, and each sample is one
`measureStep`. -/
theorem measureRule : Obligations.MeasureRule := by
  intro s ns (kw : Vector KwState Config.cMax) two
  simp only [measure, measureAll_eq]
  refine ⟨fun c i => (measuredSamples s c (measuredChannels s ns kw c) i).1,
    fun c i => (measuredSamples s c (measuredChannels s ns kw c) i).2, rfl, fun c hc => ?channel,
    fun c hc => measuredChannels_before s ns kw hc, rfl⟩
  case channel =>
    refine ⟨measuredChannels_before s ns kw (Nat.le_refl c), measuredChannels_after s ns kw hc two,
      (congrArg Prod.snd (measuredChannels_succ s ns kw c) :), fun i _ => ?sample⟩
    case sample => exact Prod.mk.inj (measuredSamples_succ s c _ i)

/-! ## The analyses (R152, R153) -/

/-- Settles O54: nothing is noted, so only the loudness unit and DONE change. -/
theorem lmAnalyzeInEffect : Obligations.LmAnalyzeInEffect := by
  intro ns s hr hf
  obtain ⟨w, hexec⟩ := exec_rule_finite (i := .lmAnalyzeIn ns) (g := lmAnalyzeIn ns) hr rfl (fun _ => ⟨_, rfl⟩)
    fun w => noteAll_finite (s := accept w s) hf
  rw [hexec, lmAnalyzeIn, noteAll_eq_self (s := accept w s) hf, complete_accept_lm hr.idle]
  rfl

/-- The compensation gain moves towards the clamped ratio where a positive target is latched and the output is not
silent (R153). -/
theorem compAfter_eq (m : LmState) (out : F32) : compAfter m out =
    if m.targetValid = true ∧ Fp.gt m.target 0 = true ∧ Fp.gt out 0 = true
    then Fp.add (Fp.mul m.compDb 0x3F733333#32) (Fp.mul (Fp.clamp
      (Fp.mul 0x41A00000#32 (Open.log10 (Fp.div m.target out))) 0xC1400000#32 0x41400000#32) 0x3D4CCCCD#32)
    else m.compDb := by
  have low : Fp.neg Config.lmDiffMax = 0xC1400000#32 := by decide
  simp only [compAfter, low, Bool.and_eq_true, and_assoc]
  rfl

/-- Settles O55: as O54, on the output's own K-weighting states. -/
theorem lmAnalyzeOutEffect : Obligations.LmAnalyzeOutEffect := by
  intro ns s hr hf out d
  obtain ⟨w, hexec⟩ := exec_rule_finite (i := .lmAnalyzeOut ns) (g := lmAnalyzeOut ns) hr rfl (fun _ => ⟨_, rfl⟩)
    fun w => noteAll_finite (s := accept w s) hf
  rw [hexec, lmAnalyzeOut, noteAll_eq_self (s := accept w s) hf, complete_accept_lm hr.idle, compAfter_eq]
  rfl

/-! ## The gains of LM_APPLY (R154) -/

/-- The smoothed gain after `i` sample indexes. -/
def gainAt (m : LmState) (i : Nat) : F32 := (gainStep m (applyTarget m))^[i] m.gs

theorem gainAt_succ (m : LmState) (i : Nat) : gainAt m (i + 1) = gainStep m (applyTarget m) (gainAt m i) :=
  Function.iterate_succ_apply' _ _ _

/-- A step that ignores the list and outputs its new state lists its iterates. -/
theorem mapAccum_iterate {σ α : Type} (f : σ → σ) (a : σ) (l : List α) :
    mapAccum (fun b _ => (f b, f b)) a l = (f^[l.length] a, List.iterate f (f a) l.length) := by
  induction l generalizing a with
  | nil => rfl
  | cons x l ih => simp [mapAccum, ih]

theorem applyGains_eq (m : LmState) (ns : Nat) :
    applyGains m ns = (gainAt m ns, (List.range ns).map fun i => gainAt m (i + 1)) := by
  simpa [applyGains, gainAt] using mapAccum_iterate (gainStep m (applyTarget m)) m.gs (List.range ns)

/-! ## One channel of LM_APPLY -/

/-- One channel of LM_APPLY. -/
def applyPass (m : LmState) (ns c : Nat) (s : State) : State :=
  writeBlock c (List.zipWith Fp.mul (readBlock s c ns) (applyGains m ns).2) (note (readBlock s c ns) s)

theorem lmApply_eq (ns : Nat) (s : State) : lmApply ns s =
    each (chans s) (applyPass s.lm ns) { s with lm := { s.lm with gs := (applyGains s.lm ns).1 } } := rfl

theorem applyPass_sample (m : LmState) {ns i : Nat} (c : Nat) (s : State) (hi : i < ns) :
    sampleAt (applyPass m ns c s) c i = Fp.mul (sampleAt s c i) (gainAt m (i + 1)) := by
  rw [applyPass, sampleAt_writeBlock_same _ _ _ (by simpa using hi), applyGains_eq]
  simp [readBlock, hi]

/-- The sample rule of LM_APPLY: its state is the position in the block, back at 0 after the last sample. -/
def gainedSample (m : LmState) (ns i : Nat) (x : F32) : Nat × F32 := ((i + 1) % ns, Fp.mul x (gainAt m (i + 1)))

/-- Over a block from position 0 to position 0, the rule multiplies sample `i` by gain `i + 1`. -/
theorem runs_gainedSample (m : LmState) (ns : Nat) (xs ys : Nat → F32) :
    Runs (gainedSample m ns) ns xs ys 0 0 ↔ ∀ i, i < ns → ys i = Fp.mul (xs i) (gainAt m (i + 1)) := by
  constructor
  · rintro ⟨position, first, -, steps⟩ i hi
    have here (j : Nat) (hj : j < ns) : position j = j := by
      induction j with
      | zero => exact first
      | succ j ih =>
        have next := congrArg Prod.fst (steps j (by omega))
        rw [ih (by omega)] at next
        exact next.symm.trans (Nat.mod_eq_of_lt hj)
    have out := congrArg Prod.snd (steps i hi)
    rw [here i hi] at out
    exact out.symm
  · intro outs
    refine ⟨fun i => i % ns, Nat.zero_mod ns, Nat.mod_self ns, fun i hi => ?_⟩
    simp [gainedSample, outs i hi, Nat.mod_eq_of_lt hi]

/-- One channel of LM_APPLY is a pass of that rule: it keeps no cells of its own between blocks. -/
theorem applyPass_pass (m : LmState) {ns : Nat} (hn : ns ≤ Config.nMax) :
    ChannelPass (gainedSample m ns) ns (fun _ _ => 0) (applyPass m ns) where
  runs {c} s _ := (runs_gainedSample m ns _ _).2 fun _ hi => applyPass_sample m c s hi
  otherCells _ _ := rfl
  otherSample _ h hi := sampleAt_writeBlock_other _ _ _ _ (Ne.symm h)
    (by simpa [Config.nMax] using hn) (Nat.lt_of_lt_of_le hi hn)
  noted _ _ := rfl

/-! ## LM_APPLY on a finite block (R154) -/

theorem lmApply_sample {ns c i : Nat} (s : State) (hn : ns ≤ Config.nMax) (hm : chans s ≤ Config.cMax)
    (hc : c < chans s) (hi : i < ns) :
    sampleAt (lmApply ns s) c i = Fp.mul (sampleAt s c i) (gainAt s.lm (i + 1)) :=
  (runs_gainedSample s.lm ns _ _).1 ((applyPass_pass s.lm hn).loop_runs _ hc hm) i hi

theorem lmApply_finite {ns : Nat} {s : State} (hn : ns ≤ Config.nMax) (h : FiniteBlock ns s) :
    (lmApply ns s).nonf = s.nonf :=
  (applyPass_pass s.lm hn).loop_finite (s := { s with lm := { s.lm with gs := (applyGains s.lm ns).1 } }) h

theorem lmApply_gs (ns : Nat) (s : State) : (lmApply ns s).lm.gs = gainAt s.lm ns := by
  rw [lmApply_lm, applyGains_eq]

/-- Settles O57: the frame is that of every block command; the gains are the smoother's iterates, the samples those of
the loop over the channels. -/
theorem lmApplyEffect : Obligations.LmApplyEffect := by
  intro ns s hr hf
  have mapped := ready_mapped hr
  have finite (w : Word) : (lmApply ns (accept w s)).nonf = false := lmApply_finite (s := accept w s) mapped.2 hf
  obtain ⟨w, hexec⟩ := exec_rule_finite (i := .lmApply ns) (g := lmApply ns) hr rfl (fun _ => ⟨_, rfl⟩) finite
  obtain ⟨t, ht, hdone, hcontrol, hprep, hresult, houtside⟩ := block_completes (i := .lmApply ns) hr rfl
  obtain rfl := Host.Outcome.next.inj (ht.symm.trans hexec)
  refine ⟨_, hexec, hdone, hcontrol, hprep, by simp [finite], by simp, by simp, by simp, by simp, hresult, by simp,
    by simp [lmApply_lm], houtside, gainAt s.lm, rfl, (lmApply_gs ns (accept w s)).symm,
    fun i hi => ⟨?gain, ?samples⟩⟩
  case gain => exact gainAt_succ s.lm i
  case samples => exact fun c hc => lmApply_sample (accept w s) mapped.2 mapped.1 hc hi

end Sys2Proof.Machine
end

section
/-!
PROOFS. What a running or idle machine answers by itself: the hardware reset (R187), the idle step (R185), the record of
an error (R171), and the monitor registers (R160 to R163).
-/

namespace Sys2Proof.Machine

open Sys2Proof.Safety

/-! ## The hardware reset (R187) -/

/-- Settles O10: as after any hardware reset; only sample RAM's reset number differs. -/
theorem legalAtReset : Obligations.LegalAtReset :=
  { Legal.hardReset State.reset with run := nofun }

/-- No flag of STATUS is set after the hardware reset (R83, R187). -/
theorem statusWord_hardReset (s : State) : statusWord (hardReset s) = 0 := by
  have flags : statusWord State.reset = 0 := by decide
  exact flags

/-- Settles O20: the tables of the reset state are filled with one value each. -/
theorem hardwareReset : Obligations.HardwareReset := by
  intro s rest pending
  refine ⟨_, step_hardReset pending, statusWord_hardReset _, rfl, rfl, rfl, rfl, rfl, rfl, rfl, rfl, rfl, rfl, rfl, rfl,
    rfl, rfl, rfl, rfl, rfl, fun c _ => ?channel, fun b _ => ?band, fun k hk => ?binfreq, rfl⟩
  case channel => exact vget_replicate WsChan.zero
  case band => exact vget_replicate EqBand.reset
  case binfreq => exact (vget_lt _ _ hk).trans (Vector.getElem_replicate hk)

/-! ## The idle step (R185) -/

/-- Settles O7: with nothing pending the step is the sequencer's, which is idle. -/
theorem idleKeepsEverything : Obligations.IdleKeepsEverything :=
  fun _ idle nothing => (step_nothing nothing).trans (sequencerStage_idle idle)

/-! ## Recording an error (R171) -/

theorem raise_first {s : State} (k : ErrKind) (info : Word) (clear : s.err = false) :
    raise k info s = { s with err := true, errCode := k, errOvf := false, errInfo := info } :=
  if_neg (by simp [clear])

theorem raise_later {s : State} (k : ErrKind) (info : Word) (latched : s.err = true) :
    raise k info s = { s with errOvf := true } :=
  if_pos latched

/-- Settles O13: by whether an error is latched. -/
theorem firstErrorKept : Obligations.FirstErrorKept := by
  intro k info s
  cases err : s.err with
  | false =>
    rw [raise_first k info err]
    rfl
  | true =>
    rw [raise_later k info err]
    simp only [if_true, ← err]

/-! ## The monitor registers (R160 to R163, R168) -/

theorem monitorRead_idle {s : State} (idle : s.run = none) (w : Word) : monitorRead w s = { s with rdata := w } :=
  if_neg (by simp [busy, idle])

theorem monitorRead_busy {s : State} {r : Running} (running : s.run = some r) (w : Word) :
    monitorRead w s = giveFree s :=
  if_pos (by simp [busy, running])

/-- Settles O36: idle, a monitor read gives its view; EQ_TARGET gives the curve's entry, which is 0.0 for curve 0. -/
theorem monitorReads : Obligations.MonitorReads := by
  refine ⟨fun s b => ⟨rfl, fun flat => ?flat⟩, fun s idle => ?views⟩
  case flat =>
    have zero : Open.targetCurve s.par.eqCurve.toNat b = 0x00000000#32 := by rw [flat]; rfl
    rw [← zero]
    rfl
  case views =>
    have view (w : Word) : (.next (monitorRead w s) : Result) = .next { s with rdata := w } :=
      congrArg _ (monitorRead_idle idle w)
    exact ⟨fun _ => view _, fun _ => view _, fun _ => view _, fun _ => view _, fun _ => view _, fun _ => view _,
      view _, view _, view _, view _, view _, view _, view _⟩

/-- Settles O37: each of the thirteen is a monitor read, which gives the next free word. -/
theorem monitorReadsBusy : Obligations.MonitorReadsBusy := by
  intro i s r running monitor
  suffices ∃ v, exec i s = .next (monitorRead v s) by
    obtain ⟨v, answer⟩ := this
    rw [monitorRead_busy running] at answer
    exact ⟨_, _, answer⟩
  simp only [List.mem_cons, List.not_mem_nil, or_false] at monitor
  rcases monitor with (rfl | rfl | rfl | rfl | rfl | rfl | rfl) | ⟨c, -, rfl | rfl | rfl | rfl | rfl | rfl⟩ <;>
    exact ⟨_, rfl⟩

end Sys2Proof.Machine
end

section
/-!
PROOFS. The gain stage and CHAIN_PROCESS (R156, R157): every channel's samples times one factor, which at 0 dB is 1.0
and rounds back to the sample; and the nine steps between one acceptance and one completion.
-/

namespace Sys2Proof.Machine

open Sys2Proof.Safety

/-! ## A finite number times 1.0 (R9, R71) -/

theorem Fp.divEven_mul (n : Nat) {d : Nat} (positive : 0 < d) : Fp.divEven (n * d) d = n := by
  simp [Fp.divEven, Nat.mul_div_cancel n positive, positive]

/-- The sign and the other 31 bits are the pattern. -/
theorem Fp.ofBits_signBit_magBits (x : F32) : Fp.ofBits (Fp.signBit x) (Fp.magBits x) = x := by
  apply BitVec.eq_of_toNat_eq
  have := x.isLt
  simp only [Fp.ofBits, Fp.signBit, Fp.magBits, BitVec.toNat_ofNat, decide_eq_true_eq]
  split <;> omega

/-- A magnitude below `2^24` units is its own pattern, the subnormals and the first binade (R71). -/
theorem Fp.mag_small {x : F32} (h : Fp.magBits x < 2 ^ 24) : Fp.mag x = Fp.magBits x := by
  unfold Fp.mag
  dsimp only
  split
  · rfl
  · have lowest : Fp.magBits x / 2 ^ 23 = 1 := by omega
    rw [lowest]
    omega

/-- From there on the significand has 24 bits, shifted by the exponent less one (R71). -/
theorem Fp.mag_large {x : F32} (h : 2 ^ 24 ≤ Fp.magBits x) :
    ∃ f q, f < 2 ^ 23 ∧ Fp.magBits x = (q + 1) * 2 ^ 23 + f ∧ Fp.mag x = (f + 2 ^ 23) * 2 ^ q := by
  refine ⟨Fp.magBits x % 2 ^ 23, Fp.magBits x / 2 ^ 23 - 1, Nat.mod_lt _ (by decide), by omega, ?_⟩
  exact if_neg (by omega)

/-- The pattern without its sign is the exponent's multiple of `2^23` plus the significand rounded to the exponent. -/
theorem Fp.magBits_eq_round (x : F32) {d : Nat} (positive : 0 < d) :
    (Nat.log2 (Fp.mag x) - 23) * 2 ^ 23 +
      Fp.divEven (Fp.mag x * d) (d * 2 ^ (Nat.log2 (Fp.mag x) - 23)) = Fp.magBits x := by
  rcases Nat.lt_or_ge (Fp.magBits x) (2 ^ 24) with small | large
  · have exponent : Nat.log2 (Fp.mag x) - 23 = 0 := by
      rw [Fp.mag_small small]
      by_cases zero : Fp.magBits x = 0
      · rw [zero]; rfl
      · have := (Nat.log2_lt zero).2 small
        omega
    rw [exponent, Nat.pow_zero, Nat.mul_one, Fp.divEven_mul _ positive, Fp.mag_small small]
    omega
  · obtain ⟨f, q, hf, bits, mag⟩ := Fp.mag_large large
    have scale := Nat.two_pow_pos q
    have exponent : Nat.log2 (Fp.mag x) = q + 23 := by
      rw [mag, Nat.log2_eq_iff (Nat.mul_ne_zero (by omega) scale.ne'), Nat.add_assoc, Nat.pow_add', Nat.pow_add']
      exact ⟨Nat.mul_le_mul_right _ (Nat.le_add_left _ _),
        Nat.mul_lt_mul_of_pos_right (n := f + 2 ^ 23) (by omega) scale⟩
    have product : Fp.mag x * d = (f + 2 ^ 23) * (d * 2 ^ q) := by rw [mag]; ring
    rw [exponent, Nat.add_sub_cancel, product, Fp.divEven_mul _ (Nat.mul_pos positive (Nat.two_pow_pos q)), bits]
    ring

/-- A finite number is not changed by rounding it (R9). -/
theorem Fp.roundRatio_mag {x : F32} (finite : Fp.isFinite x = true) {d : Nat} (positive : 0 < d) :
    Fp.roundRatio (Fp.signBit x) (Fp.mag x * d) d = x := by
  have below : ¬ 0x7F800000 ≤ Fp.magBits x := Nat.not_le.2 (of_decide_eq_true finite)
  simp only [Fp.roundRatio, Nat.mul_div_cancel _ positive, Fp.magBits_eq_round x positive, if_neg below,
    Fp.ofBits_signBit_magBits]

/-- A finite number times 1.0 is that number, the subnormals and both zeros included. -/
theorem Fp.mul_one_of_finite {x : F32} (finite : Fp.isFinite x = true) : Fp.mul x Fp.one = x := by
  have number : Fp.isNaN x = false ∧ Fp.isInf x = false := by
    simp only [Fp.isFinite, Fp.isNaN, Fp.isInf, decide_eq_true_eq, decide_eq_false_iff_not] at *
    omega
  have one : Fp.isNaN Fp.one = false ∧ Fp.isInf Fp.one = false ∧ Fp.signBit Fp.one = false ∧
      Fp.mag Fp.one = 2 ^ 149 := by decide
  simp only [Fp.mul, number, one, Bool.or_self, Bool.bne_false, Bool.false_eq_true, if_false]
  exact Fp.roundRatio_mag finite (Nat.two_pow_pos 149)

/-! ## The gain stage (R156) -/

/-- The sample rule of a gain stage: no cells, one product. -/
def gainedBy (gl : F32) (_ : Unit) (x : F32) : Unit × F32 := ((), Fp.mul x gl)

theorem runs_gainedBy {gl : F32} {ns : Nat} {xs ys : Nat → F32} :
    Runs (gainedBy gl) ns xs ys () () ↔ ∀ i, i < ns → ys i = Fp.mul (xs i) gl := by
  constructor
  · rintro ⟨_, -, -, steps⟩ i hi
    exact (congrArg Prod.snd (steps i hi)).symm
  · exact fun outs => ⟨fun _ => (), rfl, rfl, fun i hi => Prod.ext rfl (outs i hi).symm⟩

theorem gainChannel_sample (gl : F32) {ns i : Nat} (c : Nat) (s : State) (hi : i < ns) :
    sampleAt (gainChannel gl ns c s) c i = Fp.mul (sampleAt s c i) gl := by
  rw [gainChannel, sampleAt_writeBlock_same _ _ _ (by simpa using hi)]
  simp [readBlock, hi]

/-- One channel of a gain stage is a pass of that rule. -/
theorem gainChannel_pass (gl : F32) {ns : Nat} (hn : ns ≤ Config.nMax) :
    ChannelPass (gainedBy gl) ns (fun _ _ => ()) (gainChannel gl ns) where
  runs {c} s _ := runs_gainedBy.2 fun _ hi => gainChannel_sample gl c s hi
  otherCells _ _ := rfl
  otherSample _ h hi := sampleAt_writeBlock_other _ _ _ _ (Ne.symm h)
    (by simpa [Config.nMax] using hn) (Nat.lt_of_lt_of_le hi hn)
  noted _ _ := rfl

/-- The stage touches sample RAM and `NONF` alone. -/
theorem gain_eq (gdb : F32) (ns : Nat) (s : State) :
    gain gdb ns s = { s with mem := (gain gdb ns s).mem, nonf := (gain gdb ns s).nonf } := by
  refine each_keeps (p := fun t : State => t = { s with mem := t.mem, nonf := t.nonf }) (fun c t _ kept => ?_) rfl
  rw [kept]
  rfl

theorem gain_sample (gdb : F32) {ns c i : Nat} {s : State} (hr : Ready ns s) (hc : c < chans s) (hi : i < ns) :
    sampleAt (gain gdb ns s) c i = Fp.mul (sampleAt s c i) (db2lin gdb) := by
  have mapped := ready_mapped hr
  exact runs_gainedBy.1 ((gainChannel_pass (db2lin gdb) mapped.2).loop_runs s hc mapped.1) i hi

/-- 0 dB is the factor 1.0 (R6, R12). -/
theorem db2lin_zero : db2lin 0x00000000#32 = Fp.one := by
  have quotient : Fp.div 0x00000000#32 Fp.twenty = Fp.zero := by decide
  rw [db2lin, quotient, Open.pow10_zero]

/-- Settles O59: the loop over the channels multiplies each sample once, at 0 dB by 1.0. -/
theorem gainAtZeroDb : Obligations.GainAtZeroDb := by
  refine ⟨fun gdb ns s hr => ⟨gain_eq gdb ns s, (gain_stores gdb ns s).outside, ?samples⟩,
    fun ns s hr hf c hc i hi => ?zeroDb⟩
  case samples => exact fun c hc i hi => gain_sample gdb hr hc hi
  case zeroDb => rw [gain_sample _ hr hc hi, db2lin_zero, Fp.mul_one_of_finite (hf c hc i hi)]

/-! ## The chain (R157) -/

/-- Where nothing non-finite was read, completion sets DONE and ends the command (R75). -/
theorem complete_of_finite {s : State} (finite : s.nonf = false) :
    complete s = { s with run := none, done := true } := by
  simp [complete, finite]

/-- Settles O58: the nine steps are the rule, and where they leave `NONF` clear nothing they wrote is free. -/
theorem chainProcessEffect : Obligations.ChainProcessEffect := by
  intro ns s hr s0 s1 s2 s3 s4 s5 s6 s7 s8 s9 finite
  have mapped := ready_mapped hr
  have rule : commandBody (.chainProcess ns) (running (cmdWord 0x60 0 ns) s) s0 = .next s9 := by
    rw [← settle_finite (f := freeChain s.par ns) (s := s0) finite]
    exact onSamples_next mapped.1 mapped.2
  rw [← complete_of_finite finite]
  exact exec_ready hr rfl rfl rule

end Sys2Proof.Machine
end

section
/-!
PROOFS. How long a latched error stays (R177): every instruction but the STATUS write keeps it, and one access alone is
the STATUS write.
-/

namespace Sys2Proof.Machine

open Sys2Proof.Safety

/-! ## The access a bus operation decodes from (R64, R66) -/

/-- A key on a row's words is that of the access presenting the word it falls on: bit 18 is the direction, the rest the
offset, and a read's data word counts for nothing. -/
theorem busAccess_of_holds {row : BusRow} {t : Txn} (listed : row ∈ busRows) (word : t.size = 4)
    (aligned : t.addr.toNat % 4 = 0) (holds : row.holds t.key = true) :
    busAccess row ((t.key - row.key) / 4) t.wdata = .bus { t with wdata := if t.write then t.wdata else 0 } := by
  obtain ⟨write, addr, size, wdata⟩ := t
  obtain rfl : size = 4 := word
  replace aligned : addr.toNat % 4 = 0 := aligned
  obtain ⟨rowAligned, range⟩ := busRow_range row listed
  obtain ⟨low, high⟩ := busRow_holds_iff.1 holds
  have offset := addr.isLt
  have keys : writeKey = 2 ^ 18 := rfl
  unfold busAccess
  cases write with
  | false =>
    have key : Txn.key ⟨false, addr, 4, wdata⟩ = addr.toNat := Nat.zero_add _
    rw [key] at low high ⊢
    have place : row.key + 4 * ((addr.toNat - row.key) / 4) = addr.toNat := by omega
    rw [if_pos (by omega), place, readAt, BitVec.ofNat_toNat, BitVec.setWidth_eq]
    rfl
  | true =>
    have key : Txn.key ⟨true, addr, 4, wdata⟩ = writeKey + addr.toNat := rfl
    rw [key] at low high ⊢
    have place : row.key - writeKey + 4 * ((writeKey + addr.toNat - row.key) / 4) = addr.toNat := by omega
    rw [if_neg (by omega), place, writeAt, BitVec.ofNat_toNat, BitVec.setWidth_eq]
    rfl

/-- A transaction is the one the encoder presents, but for a read's data word. -/
theorem encode_decodeTxn {t : Txn} {i : Instr} (h : decodeTxn t = .ok i) :
    encode i = .bus { t with wdata := if t.write then t.wdata else 0 } := by
  unfold decodeTxn decodeKey at h
  split at h
  · cases h
  · rename_i word
    obtain ⟨size, aligned⟩ : t.size = 4 ∧ t.addr.toNat % 4 = 0 := by simpa only [not_or, not_not] using word
    split at h
    · rename_i row found
      obtain rfl := Except.ok.inj h
      have listed := List.mem_of_find?_eq_some found
      have holds : row.holds t.key = true := List.find?_some (p := fun r => BusRow.holds r t.key) found
      obtain ⟨low, high⟩ := busRow_holds_iff.1 holds
      rw [encode_busRow row listed _ (by omega) t.wdata]
      exact busAccess_of_holds listed size aligned holds
    · cases h

/-- The STATUS write is the word written at offset 0x0C. -/
theorem decode_wrStatus {a : Access} {w : Word} (h : decode a = .ok (.wrStatus w)) :
    a = .bus ⟨true, 0x0000C#18, 4, w⟩ := by
  cases a with
  | command x => cases decodeCommand_word h
  | bus t =>
    obtain ⟨write, addr, size, wdata⟩ := t
    have presented := (encode_decodeTxn h).symm
    cases write <;> cases presented
    rfl

/-! ## What keeps a latched error -/

/-- An error is latched in `t`, the one of `s`: code and info the same, and `OVF` not lost (R171, R177). -/
structure ErrorKept (s t : State) : Prop where
  err : t.err = true
  errCode : t.errCode = s.errCode
  errInfo : t.errInfo = s.errInfo
  errOvf : s.errOvf = true → t.errOvf = true

namespace ErrorKept

variable {s t u : State}

/-- Where no error register changes. -/
theorem same (latched : s.err = true)
    (h : t.err = s.err ∧ t.errCode = s.errCode ∧ t.errOvf = s.errOvf ∧ t.errInfo = s.errInfo) : ErrorKept s t := by
  obtain ⟨err, errCode, errOvf, errInfo⟩ := h
  exact ⟨err.trans latched, errCode, errInfo, errOvf.trans⟩

theorem trans (h : ErrorKept s t) (g : ErrorKept t u) : ErrorKept s u :=
  ⟨g.err, g.errCode.trans h.errCode, g.errInfo.trans h.errInfo, fun ovf => g.errOvf (h.errOvf ovf)⟩

/-- What touches no error register may follow. -/
theorem untouched (h : ErrorKept s t)
    (g : u.err = t.err ∧ u.errCode = t.errCode ∧ u.errOvf = t.errOvf ∧ u.errInfo = t.errInfo) : ErrorKept s u :=
  h.trans (same h.err g)

/-- A later error sets `OVF` only. -/
theorem raise (latched : s.err = true) (k : ErrKind) (info : Word) : ErrorKept s (raise k info s) := by
  rw [raise_later k info latched]
  exact ⟨latched, rfl, rfl, fun _ => rfl⟩

theorem give (latched : s.err = true) (w : Word) : ErrorKept s (give w s) :=
  same latched ⟨rfl, rfl, rfl, rfl⟩

theorem refuse (latched : s.err = true) (write : Bool) (k : ErrKind) (addr : Word) :
    ErrorKept s (refuse write k addr s) := by
  cases write with
  | true => exact raise latched k addr
  | false => exact (give latched 0).trans (raise (s := Machine.give 0 s) latched k addr)

theorem reject (latched : s.err = true) (r : Reject) (a : Access) : ErrorKept s (rejectAccess r a s) := by
  cases a with
  | command w => exact raise latched _ w
  | bus x => exact refuse latched x.write _ _

/-- No rule of a command touches the error registers (R169). -/
theorem rule (latched : s.err = true) {i : Instr} {r : Running} (h : commandBody i r s = .next t) :
    ErrorKept s t := by
  obtain ⟨-, err, -, -, errCode, errOvf, errInfo, -⟩ := commandBody_frame h
  exact same latched ⟨err, errCode, errOvf, errInfo⟩

/-- A STATUS write without bit 2 (R79). -/
theorem clearStatus (latched : s.err = true) {w : Word} (keeps : w.getLsbD 2 = false) :
    ErrorKept s (clearStatus w s) := by
  rw [Machine.clearStatus, keeps]
  exact same latched ⟨rfl, rfl, rfl, rfl⟩

/-- A CMD write is refused or accepted (R74). -/
theorem writeCommand (latched : s.err = true) {w : Word} (h : execWrCmd w s = .next t) : ErrorKept s t := by
  unfold execWrCmd at h
  split at h
  · cases h; exact raise latched _ w
  · split at h
    · cases h; exact raise latched _ w
    · split at h
      · cases h; exact raise latched _ w
      · cases h; exact same latched ⟨rfl, rfl, rfl, rfl⟩

/-- A command is refused, or its rule is performed (R74). -/
theorem command (latched : s.err = true) {i : Instr} {w : Word} (word : commandWord i = some w)
    (h : exec i s = .next t) : ErrorKept s t := by
  rw [exec_command word] at h
  rcases issue_cases h with ⟨-, rfl⟩ | ⟨-, k, -, rfl⟩ | ⟨-, -, u, body, rfl⟩
  · exact raise latched _ w
  · exact raise latched k w
  · have accepted : ErrorKept s (accept w s) := same latched ⟨rfl, rfl, rfl, rfl⟩
    exact (accepted.trans (rule latched body)).untouched ⟨rfl, rfl, rfl, rfl⟩

theorem read (latched : s.err = true) (h : ReadEffect s t) : ErrorKept s t := by
  cases h with
  | given w => exact give latched w
  | free => exact same latched ⟨rfl, rfl, rfl, rfl⟩
  | refused _ addr => exact refuse latched false .busyRam addr

/-- Every instruction but the STATUS write, by its kind. -/
theorem exec (latched : s.err = true) {i : Instr} (other : ∀ w, i ≠ .wrStatus w) (h : exec i s = .next t) :
    ErrorKept s t := by
  cases i with
  | nop | prepare | resetAll | spaReset | spaProduce | firReset | firProcess | peqReset | peqProcess | wsReset
  | wsProcess | wsCurve | lmReset | lmAnalyzeIn | lmAnalyzeOut | lmApply | chainProcess => exact command latched rfl h
  | wrStatus w => exact absurd rfl (other w)
  | wrCmd w => exact writeCommand latched h
  | wrIrqEn | wrArg | wrCfgFs | wrCfgMaxblock | wrCfgChannels => cases h; exact same latched ⟨rfl, rfl, rfl, rfl⟩
  | wrInGainDb | wrOutGainDb | wrDriveDb | wrMixPct | wrEqStrengthPct | wrEqReactionMs | wrLowcutHz | wrHighcutHz
  | wrAlgorithm | wrEqCurve | wrSolo | wrFilterEn | wrEqEn => cases h; exact same latched (by simp)
  | wrSample c j w =>
    cases h
    split
    · exact refuse latched true _ _
    · exact same latched ⟨rfl, rfl, rfl, rfl⟩
  | _ => exact read latched (ReadEffect.exec rfl rfl h)

/-- An access keeps the error, or is a STATUS write with bit 2. -/
theorem deliver (latched : s.err = true) {a : Access} (h : deliver a s = .next t) :
    ErrorKept s t ∨ ∃ w, a = .bus ⟨true, 0x0000C#18, 4, w⟩ ∧ w.getLsbD 2 = true := by
  cases decoded : decode a with
  | error r =>
    rw [deliver_error decoded] at h
    cases h; exact .inl (reject latched r a)
  | ok i =>
    rw [deliver_ok decoded] at h
    by_cases status : ∃ w, i = .wrStatus w
    · obtain ⟨w, rfl⟩ := status
      cases h
      cases bit : w.getLsbD 2 with
      | true => exact .inr ⟨w, decode_wrStatus decoded, bit⟩
      | false => exact .inl (clearStatus latched bit)
    · exact .inl (exec latched (fun w isStatus => status ⟨w, isStatus⟩) h)

theorem sequencer (latched : s.err = true) (h : sequencerStage s = .next t) : ErrorKept s t := by
  cases sequencerStage_effect h with
  | performed r i u _ _ _ body => exact (rule latched body).untouched ⟨rfl, rfl, rfl, rfl⟩
  | idle | completed | unnamed => exact same latched ⟨rfl, rfl, rfl, rfl⟩

/-- Taking an event off the inbox is no part of it. -/
theorem takeEvent {rest : List Event} (h : ErrorKept { s with inbox := rest } t) : ErrorKept s t :=
  ⟨h.err, h.errCode, h.errInfo, h.errOvf⟩

end ErrorKept

/-- Settles O18: by the event the step takes. -/
theorem errorsClearedOnlyByHost : Obligations.ErrorsClearedOnlyByHost := by
  refine ⟨fun s t latched h => ?kept, fun w s clears => ⟨clearStatus w s, rfl, by simp [clearStatus, clears]⟩⟩
  suffices ErrorKept s t ∨ (∃ rest, s.inbox = .hardReset :: rest) ∨
      ∃ w rest, s.inbox = .access (.bus ⟨true, 0x0000C#18, 4, w⟩) :: rest ∧ w.getLsbD 2 = true from
    this.imp_left fun kept => ⟨kept.err, kept.errCode, kept.errInfo, kept.errOvf⟩
  cases pending : s.inbox with
  | nil =>
    rw [step_nothing pending] at h
    exact .inl (.sequencer latched h)
  | cons event rest =>
    cases event with
    | hardReset => exact .inr (.inl ⟨rest, rfl⟩)
    | sequencer =>
      rw [step_sequencer pending] at h
      exact .inl (ErrorKept.sequencer (s := { s with inbox := rest }) latched h).takeEvent
    | access a =>
      rw [step_access pending] at h
      obtain kept | ⟨w, rfl, clears⟩ := ErrorKept.deliver (s := { s with inbox := rest }) latched h
      · exact .inl kept.takeEvent
      · exact .inr (.inr ⟨w, rest, rfl, clears⟩)

end Sys2Proof.Machine
end

section
/-!
PROOFS. A NaN or an infinity in what a command reads (R172): a pass over a channel reads that channel's samples before
any pass replaces them, so the loop notes every non-finite sample of the block, and completion sets NONFINITE.
-/

namespace Sys2Proof.Machine

open Sys2Proof.Safety

/-! ## `NONF` after a loop over the channels -/

/-- Channel `c` holds a NaN or an infinity among its first `ns` samples. -/
def NonFiniteChannel (ns : Nat) (s : State) (c : Nat) : Prop := ∃ i, i < ns ∧ Fp.isFinite (sampleAt s c i) = false

theorem not_finiteBlock {ns : Nat} {s : State} :
    ¬ FiniteBlock ns s ↔ ∃ c, c < chans s ∧ NonFiniteChannel ns s c := by
  simp [FiniteBlock, NonFiniteChannel]

/-- Reading a channel sets `NONF` where it holds such a sample. -/
theorem note_nonf_iff {ns c : Nat} {s t : State} :
    (note (readBlock s c ns) t).nonf = true ↔ t.nonf = true ∨ NonFiniteChannel ns s c := by
  simp [readBlock, NonFiniteChannel]

/-- A loop whose passes read the channels in turn, each as it stood in `s`, sets `NONF` where one of them holds such a
sample. -/
theorem each_nonf_iff {n ns : Nat} {pass : Nat → State → State} {s : State} {unread : Nat → State → Prop}
    (start : unread 0 s)
    (reads : ∀ c t, c < n → unread c t → unread (c + 1) (pass c t) ∧
      ((pass c t).nonf = true ↔ t.nonf = true ∨ NonFiniteChannel ns s c)) :
    (each n pass s).nonf = true ↔ s.nonf = true ∨ ∃ c, c < n ∧ NonFiniteChannel ns s c := by
  refine (each_induct (p := fun k t => unread k t ∧
    (t.nonf = true ↔ s.nonf = true ∨ ∃ c, c < k ∧ NonFiniteChannel ns s c)) ⟨start, by simp⟩ ?_).2
  rintro k t hk ⟨ahead, noted⟩
  obtain ⟨ahead', step⟩ := reads k t hk ahead
  refine ⟨ahead', ?_⟩
  rw [step, noted, or_assoc, Nat.exists_lt_succ_right]

/-- Pass `c` notes the samples of channel `c` and touches no other channel's. -/
structure NotingPass (ns : Nat) (pass : Nat → State → State) : Prop where
  otherSample : ∀ {c d i} s, c ≠ d → i < ns → sampleAt (pass c s) d i = sampleAt s d i
  noted : ∀ c s, (pass c s).nonf = (note (readBlock s c ns) s).nonf

theorem ChannelPass.noting {σ : Type} {step : σ → F32 → σ × F32} {ns : Nat} {cells : State → Nat → σ}
    {pass : Nat → State → State} (h : ChannelPass step ns cells pass) : NotingPass ns pass :=
  ⟨h.otherSample, h.noted⟩

/-- The loop over the prepared channels sets `NONF` exactly where the block holds a non-finite sample. -/
theorem NotingPass.loop_nonf_iff {ns : Nat} {pass : Nat → State → State} (h : NotingPass ns pass) (s : State) :
    (each (chans s) pass s).nonf = true ↔ s.nonf = true ∨ ¬ FiniteBlock ns s := by
  rw [not_finiteBlock]
  refine each_nonf_iff (unread := fun k t => ∀ c, k ≤ c → ∀ i, i < ns → sampleAt t c i = sampleAt s c i)
    (fun _ _ _ _ => rfl) fun k t _ unread => ⟨fun c hc i hi => ?_, ?_⟩
  · rw [h.otherSample t (by omega) hi, unread c (by omega) i hi]
  · rw [h.noted, note_nonf_iff]
    have same : NonFiniteChannel ns t k ↔ NonFiniteChannel ns s k :=
      exists_congr fun i => and_congr_right fun hi => by rw [unread k (Nat.le_refl k) i hi]
    rw [same]

theorem peqChannel_noting {ns : Nat} (hn : ns ≤ Config.nMax) : NotingPass ns (peqChannel ns) :=
  ⟨fun s h hi => peqChannel_otherSample hn hi s h, fun _ _ => rfl⟩

theorem firChannel_noting (lcBy hcBy : Bool) {ns : Nat} (inst : Nat) (hn : ns ≤ Config.nMax) :
    NotingPass ns (firChannel lcBy hcBy ns inst) :=
  ⟨fun _ h hi => sampleAt_writeBlock_other _ _ _ _ (Ne.symm h)
    (by rw [mapAccum_length, readBlock_length]; exact hn) (Nat.lt_of_lt_of_le hi hn), fun _ _ => rfl⟩

/-! ## `NONF` after each unit's rule -/

section Rules

variable {par : Params} {ns : Nat} {s : State}

theorem noteAll_nonf_iff : (noteAll ns s).nonf = true ↔ s.nonf = true ∨ ¬ FiniteBlock ns s := by
  rw [not_finiteBlock]
  exact each_nonf_iff (unread := fun _ _ => True) trivial fun c t _ _ => ⟨trivial, note_nonf_iff⟩

theorem lmAnalyzeIn_nonf_iff : (lmAnalyzeIn ns s).nonf = true ↔ s.nonf = true ∨ ¬ FiniteBlock ns s :=
  noteAll_nonf_iff (s := s)

theorem lmAnalyzeOut_nonf_iff : (lmAnalyzeOut ns s).nonf = true ↔ s.nonf = true ∨ ¬ FiniteBlock ns s :=
  noteAll_nonf_iff (s := s)

theorem wsProcess_nonf_iff (hn : ns ≤ Config.nMax) :
    (wsProcess par ns s).nonf = true ↔ s.nonf = true ∨ ¬ FiniteBlock ns s :=
  (wsChannel_pass (wsSetup par s.ws) hn).noting.loop_nonf_iff s

theorem gain_nonf_iff (gdb : F32) (hn : ns ≤ Config.nMax) :
    (gain gdb ns s).nonf = true ↔ s.nonf = true ∨ ¬ FiniteBlock ns s :=
  (gainChannel_pass (db2lin gdb) hn).noting.loop_nonf_iff s

theorem lmApply_nonf_iff (hn : ns ≤ Config.nMax) :
    (lmApply ns s).nonf = true ↔ s.nonf = true ∨ ¬ FiniteBlock ns s :=
  (applyPass_pass s.lm hn).noting.loop_nonf_iff { s with lm := { s.lm with gs := (applyGains s.lm ns).1 } }

/-- Enabled, the equaliser has read the block once the analyser is fed; its filters add nothing to that. -/
theorem peqRun_nonf_iff (hn : ns ≤ Config.nMax) :
    (peqRun par ns s).nonf = true ↔ s.nonf = true ∨ ¬ FiniteBlock ns s := by
  have fed : (peqLooped par ns s).nonf = true ↔ s.nonf = true ∨ ¬ FiniteBlock ns s := noteAll_nonf_iff
  have block : FiniteBlock ns (peqLooped par ns s) ↔ FiniteBlock ns s := by
    simp only [FiniteBlock, peqLooped_chans, sampleAt_congr (peqLooped_mem par ns s)]
  rw [peqRun_eq, ← peqLooped_chans par ns s, (peqChannel_noting hn).loop_nonf_iff, block, fed, or_assoc, or_self]

theorem firProcess_nonf_iff {inst : Nat} (hn : ns ≤ Config.nMax) (runs : FirRuns par s.prep.fs) :
    (firProcess par ns inst s).nonf = true ↔ s.nonf = true ∨ ¬ FiniteBlock ns s := by
  rw [firProcess_channels runs]
  exact (firChannel_noting _ _ inst hn).loop_nonf_iff (firGated par inst s)

/-! ## CHAIN_PROCESS -/

theorem peqProcess_keeps_nonf (hn : ns ≤ Config.nMax) (h : s.nonf = true) : (peqProcess par ns s).nonf = true := by
  unfold peqProcess
  split
  · exact h
  · exact (peqRun_nonf_iff hn).2 (.inl h)

theorem firProcess_keeps_nonf {inst : Nat} (hn : ns ≤ Config.nMax) (h : s.nonf = true) :
    (firProcess par ns inst s).nonf = true := by
  by_cases runs : FirRuns par s.prep.fs
  · exact (firProcess_nonf_iff hn runs).2 (.inl h)
  · unfold firProcess
    split
    · exact h
    · rename_i enabled
      have bypassed : (lowBypass par s.prep.fs && highBypass par) = true := by
        by_contra notBypassed
        exact runs ⟨enabled, Bool.eq_false_iff.2 notBypassed⟩
      rw [if_pos bypassed]
      exact h

/-- The chain's first step reads the whole block, and no later step clears what it noted. -/
theorem chainSteps_nonf (hn : ns ≤ Config.nMax) (nonfinite : ¬ FiniteBlock ns s) :
    (chainSteps par ns s).nonf = true := by
  have analyzed := (lmAnalyzeIn_nonf_iff (ns := ns)).2 (.inr nonfinite)
  have gained := (gain_nonf_iff par.inGainDb hn).2 (.inl analyzed)
  have filtered := firProcess_keeps_nonf (par := par) (inst := 0) hn gained
  have shaped := (wsProcess_nonf_iff (par := par) hn).2 (.inl filtered)
  have equalized := peqProcess_keeps_nonf (par := par) hn shaped
  have refiltered := firProcess_keeps_nonf (par := par) (inst := 1) hn equalized
  have regained := (gain_nonf_iff par.outGainDb hn).2 (.inl refiltered)
  have measured := (lmAnalyzeOut_nonf_iff (ns := ns)).2 (.inl regained)
  exact (lmApply_nonf_iff hn).2 (.inl measured)

end Rules

/-! ## Completion with NONFINITE (R172) -/

/-- Ready, a block command whose rule sets `NONF` completes with NONFINITE set, everything else as any block command:
the choice of free values does not touch `NONF`. -/
theorem block_nonfinite {i : Instr} {ns : Nat} {s : State} {g : State → State} (hr : Ready ns s)
    (hi : blockLength i = some ns)
    (rule : ∀ w, ∃ free : Nat → State → State → State, (∀ d s t, (free d s t).nonf = t.nonf) ∧
      commandBody i (running w s) (accept w s) =
        onSamples ns (accept w s) (settle free (accept w s) (g (accept w s))))
    (noted : ∀ w, (g (accept w s)).nonf = true) :
    ∃ t, exec i s = .next t ∧ Completed t ∧ t.nonfinite = true ∧ SameControl s t ∧ SamePrep s t := by
  obtain ⟨t, ht, hdone, hcontrol, hprep, -, -⟩ := block_completes hr hi
  obtain ⟨w, u, hu, rfl⟩ := exec_ready_inv hr hi ht
  obtain ⟨free, keeps, settled⟩ := rule w
  obtain ⟨rfl, -, -⟩ := onSamples_cases (settled.symm.trans hu)
  have nonf : (settle free (accept w s) (g (accept w s))).nonf = true :=
    (settle_field State.nonf (fun _ _ => rfl) fun d => keeps d _ _).trans (noted w)
  exact ⟨_, ht, hdone, by rw [complete_nonfinite, nonf, Bool.or_true], hcontrol, hprep⟩

/-- The rule of WS_CURVE on a non-finite `ARG`: `NONF` is set and the value is free (R114, R172; log 2). -/
theorem wsCurve_rule_nonfinite {s : State} (nonfinite : Fp.isFinite s.arg = false) (w : Word) :
    commandBody .wsCurve (running w s) (accept w s) = .next { accept w s with
      nonf := true, result := Config.freeCell s.draws .result, draws := s.draws + 1 } := by
  have noted : (note [s.arg] (accept w s)).nonf = true := by simp [nonfinite]
  refine congrArg Host.Outcome.next ((settle_nonfinite ?_).trans ?_)
  · exact noted
  · exact congrArg (fun b => { accept w s with
      nonf := b, result := Config.freeCell s.draws .result, draws := s.draws + 1 }) noted

/-- Settles O42: every rule named reads the whole block, WS_CURVE its `ARG`. -/
theorem nonFiniteSamples : Obligations.NonFiniteSamples := by
  refine ⟨fun ns inst s hr hf => ?blocks, fun s idle prepared nonfinite => ?curve⟩
  case blocks =>
    have hn := (ready_mapped hr).2
    simp only [List.forall_mem_cons, List.not_mem_nil, false_implies, implies_true, and_true]
    refine ⟨⟨?spa, ?ws, ?lmIn, ?lmOut, ?lmApply, ?chain⟩, fun enabled => ?peq, fun enabled notBypassed => ?fir⟩
    case spa =>
      exact block_nonfinite (g := spaFeed ns) hr rfl (fun w => ⟨_, fun _ _ _ => by simp, rfl⟩)
        fun w => noteAll_nonf_iff.2 (.inr hf)
    case ws =>
      exact block_nonfinite (g := wsProcess s.par ns) hr rfl (fun w => ⟨_, fun _ _ _ => by simp, rfl⟩)
        fun w => (wsProcess_nonf_iff hn).2 (.inr hf)
    case lmIn =>
      exact block_nonfinite (g := lmAnalyzeIn ns) hr rfl (fun w => ⟨_, fun _ _ _ => by simp, rfl⟩)
        fun w => lmAnalyzeIn_nonf_iff.2 (.inr hf)
    case lmOut =>
      exact block_nonfinite (g := lmAnalyzeOut ns) hr rfl (fun w => ⟨_, fun _ _ _ => by simp, rfl⟩)
        fun w => lmAnalyzeOut_nonf_iff.2 (.inr hf)
    case lmApply =>
      exact block_nonfinite (g := lmApply ns) hr rfl (fun w => ⟨_, fun _ _ _ => by simp, rfl⟩)
        fun w => (lmApply_nonf_iff hn).2 (.inr hf)
    case chain =>
      exact block_nonfinite (g := chainSteps s.par ns) hr rfl (fun w => ⟨_, fun _ _ _ => by simp, rfl⟩)
        fun w => chainSteps_nonf hn hf
    case peq =>
      refine block_nonfinite (g := peqProcess s.par ns) hr rfl (fun w => ⟨_, fun _ _ _ => by simp, rfl⟩) fun w => ?_
      rw [peqProcess, if_neg enabled]
      exact (peqRun_nonf_iff hn).2 (.inr hf)
    case fir =>
      exact block_nonfinite (g := firProcess s.par ns inst) hr rfl (fun w => ⟨_, fun _ _ _ => by simp, rfl⟩)
        fun w => (firProcess_nonf_iff (s := accept w s) hn ⟨enabled, notBypassed⟩).2 (.inr hf)
  case curve =>
    have passed : commandCheck .wsCurve s = none := by simp [commandCheck, checkPrepared, prepared]
    rw [exec_command (i := .wsCurve) rfl, passed, issue_accepted idle (wsCurve_rule_nonfinite nonfinite _)]
    exact ⟨_, rfl, by simp [complete, accept, idle]⟩

end Sys2Proof.Machine
end
